-- ==== Sys2Proof/Word.lean ====
section
/-! DEFINITION. The character of the two lines, the index types of the part's collections, and tables of a fixed size. -/

namespace Sys2Proof

/-- The eight data bits of one character (R87). -/
abbrev Byte := BitVec 8

/-- A pod's place in the pod tables; pod address = value + 1 (section 0.4: pods are numbered 1..63). -/
abbrev PodIx := Fin 63

/-- A zone's place in the zone tables; zone number = value + 1 (zones are numbered 1..16). -/
abbrev ZoneIx := Fin 16

/-- An output's place in the output tables; output number = value + 1 (outputs are numbered 1..4). -/
abbrev OutIx := Fin 4

/-- A slot number, 0..15 (R103). -/
abbrev SlotNo := Fin 16

/-- The entry of a table at a place. -/
def tget {α : Type} {n : Nat} (v : Vector α n) (i : Fin n) : α := v.get i

/-- The table with one entry replaced. -/
def tset {α : Type} {n : Nat} (v : Vector α n) (i : Fin n) (x : α) : Vector α n := v.set i.val x

/-- The table whose entry at each place is computed from the place and the entry there. -/
def tmap {α β : Type} {n : Nat} (v : Vector α n) (f : Fin n → α → β) : Vector β n :=
  Vector.ofFn fun i => f i (tget v i)

/-- The table that holds one value everywhere. -/
def tconst {α : Type} (n : Nat) (x : α) : Vector α n := Vector.replicate n x

end Sys2Proof
end

