-- ==== Sys2Proof/Config.lean ====
section
/-! DEFINITION. What one configuration bank holds (TABLE 10-1), and the one value the spec leaves free. -/

namespace Sys2Proof

/-- TABLE 2-1, role: what a pod measures. -/
inductive Role where
  | absent | air | surface | dual
deriving DecidableEq, Repr, Inhabited

/-- The four risk states of section 3.3, which are also the risk classes of TABLE 3-4, in rising severity. -/
inductive RiskClass where
  | clear | watch | warn | alarm
deriving DecidableEq, Repr, Inhabited

/-- TABLE 4-1, mode. -/
inductive OutputMode where
  | off | level | proportional
deriving DecidableEq, Repr, Inhabited

/-- TABLE 4-1, level: the risk state at or above which a LEVEL output is on. -/
inductive OutputLevel where
  | watch | warn | alarm
deriving DecidableEq, Repr, Inhabited

/-- TABLE 4-1, fail action. -/
inductive FailAction where
  | off | on | hold
deriving DecidableEq, Repr, Inhabited

/-- TABLE 9-1, start mode. -/
inductive StartMode where
  | off | rounds | continuous
deriving DecidableEq, Repr, Inhabited

/-- The four bit rates of TABLE 0-4. -/
inductive BitRate where
  | b9600 | b19200 | b38400 | b57600
deriving DecidableEq, Repr, Inhabited

/-- TABLE 2-1, the pod entry. A gain and offset pair stands for each value a pod may report. -/
structure PodEntry where
  role       : Role
  zone       : Option ZoneIx
  airGain    : Int
  airOffset  : Int
  rhGain     : Int
  rhOffset   : Int
  surfGain   : Int
  surfOffset : Int
  weight     : Nat
  staleLimit : Nat
  substitute : Bool
  annotate   : Bool
deriving DecidableEq, Repr, Inhabited

/-- TABLE 3-1, the zone entry. Margins and hysteresis in hundredths of a degree, delays in seconds. -/
structure ZoneEntry where
  enabled    : Bool
  watch      : Int
  warn       : Int
  alarm      : Int
  hysteresis : Int
  escDelay   : Nat
  relDelay   : Nat
deriving DecidableEq, Repr, Inhabited

/-- TABLE 4-1, the output entry. The zone set is a mask whose lowest bit stands for zone 1; the period is in seconds. -/
structure OutputEntry where
  mode       : OutputMode
  zoneSet    : BitVec 16
  level      : OutputLevel
  onset      : Int
  full       : Int
  period     : Nat
  failAction : FailAction
deriving DecidableEq, Repr, Inhabited

/-- TABLE 9-1, the sweep program. Start delay in seconds, pace in milliseconds. -/
structure SweepProgram where
  startMode  : StartMode
  rounds     : Nat
  startDelay : Nat
  pace       : Nat
deriving DecidableEq, Repr, Inhabited

/-- TABLE 10-3, the field settings. Reply window in milliseconds. -/
structure FieldSettings where
  rate   : BitRate
  window : Nat
deriving DecidableEq, Repr, Inhabited

/-- TABLE 10-1, one configuration bank. The sweep list holds exactly the places below its length (R160); a place that
holds address 0 (R163) is none. -/
structure Bank where
  pods      : Vector PodEntry 63
  zones     : Vector ZoneEntry 16
  outputs   : Vector OutputEntry 4
  sweepList : List (Option PodIx)
  program   : SweepProgram
  field     : FieldSettings
deriving DecidableEq, Repr, Inhabited

/-- What the image's cells hold from a STORE until a write ends DONE: the cells are being written, a reset may cut the
write short, and a cell may not hold what was written (R182 to R184), and the spec states no value for them. A free
value: nothing is known of it. Its argument counts the values drawn. Log entry 10. -/
opaque Config.imageCells : Nat → Bank

end Sys2Proof
end

