-- ==== Sys2Proof/Syntax.lean ====
section
/-! DEFINITION. The commands of the block, one constructor per row of spec/opcode_table.json. -/

namespace Sys2Proof

/-- The two lines, each with a telegram receiver of its own (R88). -/
inductive Line where
  | trunk | field
deriving DecidableEq, Repr

/-- The commands. `dt` is the time since the event before, in ticks (log entries 1 and 2). In a character command
`data` is the eight data bits and `stop` the stop bit as received: false is a framing fault (R87). In a management
request `payload` is the characters between the length and the check pair (R101). -/
inductive Instr where
  /-- FULL_RESET (R185): power-on, or RESET-N goes low. -/
  | fullReset (dt : Nat)
  /-- START_UP (R186): the end of reset, with the levels of the TRATE and ADDR strap pins (R137). -/
  | startUp (trate : BitVec 2) (addr : BitVec 6)
  /-- TRUNK_MARK_CHARACTER (R139). -/
  | trunkMarkCharacter (dt : Nat) (data : Byte) (stop : Bool)
  /-- TRUNK_DATA_CHARACTER (R88). -/
  | trunkDataCharacter (dt : Nat) (data : Byte) (stop : Bool)
  /-- GAP_TIMER_EXPIRY (R90): the gap timer of one line's receiver. -/
  | gapTimerExpiry (dt : Nat) (line : Line)
  /-- TRUNK_TRANSMISSION_START (R142). -/
  | trunkTransmissionStart (dt : Nat)
  /-- TRUNK_TRANSMISSION_END (R143). -/
  | trunkTransmissionEnd (dt : Nat)
  /-- FIELD_TRANSACTION_START (R117). -/
  | fieldTransactionStart (dt : Nat)
  /-- FIELD_SENDING_END (R120). -/
  | fieldSendingEnd (dt : Nat)
  /-- FIELD_MARK_CHARACTER (R121). -/
  | fieldMarkCharacter (dt : Nat) (data : Byte) (stop : Bool)
  /-- FIELD_DATA_CHARACTER (R122). -/
  | fieldDataCharacter (dt : Nat) (data : Byte) (stop : Bool)
  /-- REPLY_WINDOW_EXPIRY (R121). -/
  | replyWindowExpiry (dt : Nat)
  /-- GUARD_TIMER_EXPIRY (R129). -/
  | guardTimerExpiry (dt : Nat)
  /-- STALE_DEADLINE_EXPIRY (R29) of one pod record. -/
  | staleDeadlineExpiry (dt : Nat) (pod : PodIx)
  /-- ZONE_TIMER_EXPIRY (R54) of one zone. -/
  | zoneTimerExpiry (dt : Nat) (zone : ZoneIx)
  /-- ON_TIME_TIMER_EXPIRY (R74) of one output. -/
  | onTimeTimerExpiry (dt : Nat) (output : OutIx)
  /-- PERIOD_TIMER_EXPIRY (R74) of one output. -/
  | periodTimerExpiry (dt : Nat) (output : OutIx)
  /-- IDENTIFY (R172), kind 0x50. -/
  | identify (dt : Nat) (payload : List Byte)
  /-- READ_STATUS (R173), kind 0x51. -/
  | readStatus (dt : Nat) (payload : List Byte)
  /-- READ_ZONE (R174), kind 0x52. -/
  | readZone (dt : Nat) (payload : List Byte)
  /-- READ_POD (R33), kind 0x53. -/
  | readPod (dt : Nat) (payload : List Byte)
  /-- READ_ENTRY (R174), kind 0x54. -/
  | readEntry (dt : Nat) (payload : List Byte)
  /-- WRITE_POD_ENTRY (R161), kind 0x55. -/
  | writePodEntry (dt : Nat) (payload : List Byte)
  /-- WRITE_ZONE_ENTRY (R161), kind 0x56. -/
  | writeZoneEntry (dt : Nat) (payload : List Byte)
  /-- WRITE_OUTPUT_ENTRY (R161), kind 0x57. -/
  | writeOutputEntry (dt : Nat) (payload : List Byte)
  /-- WRITE_SWEEP_LIST (R163), kind 0x58. -/
  | writeSweepList (dt : Nat) (payload : List Byte)
  /-- WRITE_FIELD_SETTINGS (R162), kind 0x59. -/
  | writeFieldSettings (dt : Nat) (payload : List Byte)
  /-- COPY_ACTIVE (R164), kind 0x5A. -/
  | copyActive (dt : Nat) (payload : List Byte)
  /-- SWAP (R167), kind 0x5B. -/
  | swap (dt : Nat) (payload : List Byte)
  /-- SWEEP_CONTROL_START (R149), kind 0x5C with command 0. -/
  | sweepControlStart (dt : Nat)
  /-- SWEEP_CONTROL_STOP (R150), kind 0x5C with command 1. -/
  | sweepControlStop (dt : Nat)
  /-- SWEEP_CONTROL_RESUME (R150), kind 0x5C with command 2. -/
  | sweepControlResume (dt : Nat)
  /-- DELAY_TIMER_EXPIRY (R151). -/
  | delayTimerExpiry (dt : Nat)
  /-- PACE_TIMER_EXPIRY (R153). -/
  | paceTimerExpiry (dt : Nat)
  /-- OUTPUT_CONTROL_INHIBIT (R79), kind 0x5D with the output character and command 0. -/
  | outputControlInhibit (dt : Nat) (output : Byte)
  /-- OUTPUT_CONTROL_RELEASE (R80), kind 0x5D with the output character and command 1. -/
  | outputControlRelease (dt : Nat) (output : Byte)
  /-- STORE (R182), kind 0x5E. -/
  | store (dt : Nat) (payload : List Byte)
  /-- STORE_TIMER_EXPIRY (R183): whether every written cell holds the value written. -/
  | storeTimerExpiry (dt : Nat) (cellsMatch : Bool)
  /-- READ_COUNTERS (R178), kind 0x5F. -/
  | readCounters (dt : Nat) (payload : List Byte)
  /-- FIELD_RESTART (R179), kind 0x60. -/
  | fieldRestart (dt : Nat) (payload : List Byte)
  /-- BAD_KIND (R171): a request to the own address of any other kind. -/
  | badKind (dt : Nat) (kind : Byte) (payload : List Byte)
deriving DecidableEq, Repr

end Sys2Proof
end

