-- ==== Sys2Proof/Decode.lean ====
section
/-! DEFINITION. No row of spec/opcode_table.json gives a command any bits, so no word spells a command. -/

namespace Sys2Proof

/-- The command that a word spells by the bits of spec/opcode_table.json: the table gives no row any bits, so none.
Log entry 21. -/
def decodeTableWord (_nbits _w : Nat) : Option Instr := none

end Sys2Proof
end

