-- ==== Sys2Proof/Machine/Records.lean ====
section
/-! DEFINITION. The live records of the blocks: pod, zone, output and sweep records, the two ports, the settings store. -/

namespace Sys2Proof.Machine

/-- TABLE 2-3: the freshness of a pod record. -/
inductive Freshness where
  | never | fresh | stale
deriving DecidableEq, Repr, Inhabited

/-- TABLE 2-2, the pod record. Times are time base values; `deadline` is the stale deadline's expiry while it runs. -/
structure PodRecord where
  freshness   : Freshness
  lastSeq     : Option Byte
  payload     : Option (List Byte)
  airTemp     : Option Int
  rh          : Option Int
  surfTemp    : Option Int
  dewPoint    : Option Int
  clamped     : Bool
  dry         : Bool
  below       : Bool
  sensorFault : Bool
  reseed      : Bool
  late        : Bool
  lastReply   : Option Nat
  deadline    : Option Nat
  interval    : Option Nat
  missCount   : Nat
  sampleCount : Nat
deriving DecidableEq, Repr, Inhabited

/-- TABLE 3-3: the state of a zone. -/
inductive ZoneState where
  | unused | blind | risk (c : RiskClass)
deriving DecidableEq, Repr, Inhabited

/-- The zone values of TABLE 3-2, present and absent together (R43). -/
structure ZoneValues where
  dew         : Int
  surface     : Int
  margin      : Int
  worstDew    : PodIx
  coldestSurf : PodIx
deriving DecidableEq, Repr, Inhabited

/-- TABLE 3-2, timer: NONE, or a kind with its expiry. -/
inductive ZoneTimer where
  | none | escalation (expiry : Nat) | release (expiry : Nat)
deriving DecidableEq, Repr, Inhabited

/-- TABLE 3-2, the zone record. -/
structure ZoneRecord where
  state      : ZoneState
  values     : Option ZoneValues
  airCount   : Nat
  surfCount  : Nat
  target     : Option RiskClass
  timer      : ZoneTimer
  lastChange : Nat
deriving DecidableEq, Repr, Inhabited

/-- TABLE 4-3: the state of an output. -/
inductive OutputState where
  | idle | running | inhibited | failsafe
deriving DecidableEq, Repr, Inhabited

/-- TABLE 4-2, the output record. A timer holds its expiry while it runs. `isPartial` is PARTIAL. -/
structure OutputRecord where
  state       : OutputState
  pin         : Bool
  demand      : Nat
  latched     : Nat
  periodTimer : Option Nat
  onTimer     : Option Nat
  isPartial   : Bool
deriving DecidableEq, Repr, Inhabited

/-- TABLE 9-3: the state of the sweep. -/
inductive SweepState where
  | idle | delaying | running | held
deriving DecidableEq, Repr, Inhabited

/-- TABLE 9-2, sweep mode: the start mode captured at the last START. -/
inductive SweepMode where
  | rounds | continuous
deriving DecidableEq, Repr, Inhabited

/-- TABLE 9-2, the sweep record. The coverage set is a table of its 63 possible members. -/
structure SweepRecord where
  state      : SweepState
  mode       : SweepMode
  position   : Nat
  rounds     : Nat
  delayTimer : Option Nat
  paceTimer  : Option Nat
  due        : Bool
  done       : Bool
  coverage   : Vector Bool 63
  covered    : Bool
deriving DecidableEq, Repr, Inhabited

/-- TABLE 8-1: the trunk port. RECEIVING holds the TRUNK-RX slot and the gap timer's expiry, TRANSMITTING the TRUNK-TX
slot and the moment of the last stop bit (R138). -/
inductive TrunkPort where
  | listening
  | receiving (slot : SlotNo) (gap : Nat)
  | transmitting (slot : SlotNo) (ends : Nat)
deriving DecidableEq, Repr, Inhabited

/-- TABLE 7-2, origin. -/
inductive Origin where
  | trunk | sweep
deriving DecidableEq, Repr, Inhabited

/-- TABLE 7-2, outcome. -/
inductive TxnOutcome where
  | reply | miss | sent | abandoned
deriving DecidableEq, Repr, Inhabited

/-- TABLE 7-2, the transaction record, less the window expiry (held by AWAITING) and the guard length (which follows the
outcome, R129). -/
structure Txn where
  target       : BitVec 7
  origin       : Origin
  isSample     : Bool
  expectsReply : Bool
  rate         : BitRate
  window       : Nat
  outcome      : Option TxnOutcome
deriving DecidableEq, Repr, Inhabited

/-- The four states of TABLE 7-1 in which a transaction record is present. SENDING holds the port's own copy of the
telegram (R120), the moment of its last stop bit and the FIELD-TXN slot, which a field restart may have freed (R134);
AWAITING the window's expiry and the slot; RECEIVING the gap timer's expiry and the slot; GUARD the guard timer's expiry. -/
inductive TxnPhase where
  | sending (copy : List Byte) (ends : Nat) (slot : Option SlotNo)
  | awaiting (window : Nat) (slot : SlotNo)
  | receiving (gap : Nat) (slot : SlotNo)
  | guarding (expiry : Nat)
deriving DecidableEq, Repr, Inhabited

/-- TABLE 7-1: the field port. A transaction record is present exactly while the port is not IDLE (R115). -/
inductive FieldPort where
  | idle
  | busy (txn : Txn) (phase : TxnPhase)
deriving DecidableEq, Repr, Inhabited

/-- The active-bank selector (R160). -/
inductive BankNo where
  | zero | one
deriving DecidableEq, Repr, Inhabited

/-- TABLE 12-1, store state. -/
inductive StoreState where
  | idle | writing | done | failed
deriving DecidableEq, Repr, Inhabited

/-- The stored image (R181): the six parts of one bank, then the check pair. -/
structure Image where
  bank   : Bank
  checkA : Byte
  checkB : Byte
deriving DecidableEq, Repr, Inhabited

/-- R103: a slot. `text` is the telegram in it so far, position by position, and its length is the character count;
`beyond` is what the positions after it still hold of earlier telegrams, which no block reads (R103, R109). -/
structure Slot where
  text   : List Byte
  beyond : List Byte
deriving DecidableEq, Repr, Inhabited

/-- The fifteen counters in the order of TABLE 5-11. -/
inductive Counter where
  | trunkGood | trunkCheck | trunkFraming | trunkNoSlot | trunkDiscarded
  | fieldPolls | fieldReplies | fieldMisses | fieldBad | fieldUnsolicited
  | substitutes | annotated | annotSkipped | roleMismatch | sensorFaults
deriving DecidableEq, Repr, Inhabited

end Sys2Proof.Machine
end

