-- ==== Sys2Proof/Machine/Time.lean ====
section
/-! DEFINITION. The unit of the time base and the intervals built on it. -/

namespace Sys2Proof.Machine

/-- Ticks in one millisecond. The clock of 7.3728 MHz (TABLE 0-6) gives 7372.8 cycles a millisecond, so a fifth of a
cycle makes every millisecond and every character time of TABLE 5-1 a whole number. Log entry 1. -/
def ticksPerMs : Nat := 36864

/-- A duration in milliseconds. -/
def ms (n : Nat) : Nat := n * ticksPerMs

/-- A duration in seconds. -/
def sec (n : Nat) : Nat := ms (n * 1000)

/-- R87: the character time, 11 bit times at the line's bit rate. -/
def BitRate.charTime : BitRate → Nat
  | .b9600  => 42240
  | .b19200 => 21120
  | .b38400 => 10560
  | .b57600 => 7040

/-- The number of whole units in a duration (section 0.4: floored), held at most at 65535 (R24, R33, R61). -/
def wholeUnits (unit elapsed : Nat) : Nat := min (elapsed / unit) 65535

/-- R61: a time still to run, rounded up to whole seconds; 0 when it is due. -/
def secondsLeft (now expiry : Nat) : Nat := (expiry - now + (sec 1 - 1)) / sec 1

/-- R82: the whole milliseconds still to run. -/
def msLeft (now expiry : Nat) : Nat := (expiry - now) / ms 1

/-- A timer that runs and whose expiry has been reached. -/
def isDue (now : Nat) (timer : Option Nat) : Bool :=
  match timer with
  | some e => e ≤ now
  | none => false

end Sys2Proof.Machine
end

