-- ==== Sys2Proof/Machine/Operands.lean ====
section
/-! DEFINITION. Characters, fields and telegrams: the check pair (R92), the field codings (R102), the enumeration codes
(TABLE 5-8), and the configuration bodies (TABLE 5-10). -/

namespace Sys2Proof.Machine

/-! ### Fields of one and two characters (R102) -/

/-- The character at a position of a payload; 0 beyond its end, where no rule reads. -/
def charAt (p : List Byte) (i : Nat) : Byte := p.getD i 0

/-- A one-character number. -/
def num1 (n : Nat) : List Byte := [BitVec.ofNat 8 n]

/-- A two-character number, low character first. -/
def num2 (n : Nat) : List Byte := [BitVec.ofNat 8 n, BitVec.ofNat 8 (n / 256)]

/-- A signed two-character number in two's complement, low character first. -/
def signed2 (i : Int) : List Byte := num2 (i % 65536).toNat

/-- A signed field the part sends: 0x8000 when absent. -/
def signedOpt (i : Option Int) : List Byte :=
  match i with
  | some x => signed2 x
  | none => num2 0x8000

/-- An unsigned two-character field the part sends: 0xFFFF when absent. -/
def num2Opt (n : Option Nat) : List Byte :=
  match n with
  | some x => num2 x
  | none => num2 0xFFFF

/-- The unsigned number in the two characters from a position. -/
def readNum2 (p : List Byte) (i : Nat) : Nat := (charAt p i).toNat + 256 * (charAt p (i + 1)).toNat

/-- The signed number in the two characters from a position. -/
def readSigned2 (p : List Byte) (i : Nat) : Int :=
  if readNum2 p i < 32768 then (readNum2 p i : Int) else (readNum2 p i : Int) - 65536

/-- A flag as a character or a bit: 0 clear, 1 set (TABLE 5-8). -/
def flagNum (b : Bool) : Nat := if b then 1 else 0

/-! ### Index fields -/

/-- The pod of an address character 1..63. -/
def podOf (a : Nat) : Option PodIx := if h : 1 ≤ a ∧ a ≤ 63 then some ⟨a - 1, by omega⟩ else none

/-- The zone of a number 1..16. -/
def zoneOf (z : Nat) : Option ZoneIx := if h : 1 ≤ z ∧ z ≤ 16 then some ⟨z - 1, by omega⟩ else none

/-- The output of a number 1..4. -/
def outputOf (o : Nat) : Option OutIx := if h : 1 ≤ o ∧ o ≤ 4 then some ⟨o - 1, by omega⟩ else none

/-- The address of a pod, or 0 for none. -/
def podNum (p : Option PodIx) : Nat :=
  match p with
  | some i => i.val + 1
  | none => 0

/-- The number of a zone, or 0 for none. -/
def zoneNum (z : Option ZoneIx) : Nat :=
  match z with
  | some i => i.val + 1
  | none => 0

/-! ### Enumeration codes (TABLE 5-8) -/

def RiskClass.code : RiskClass → Nat
  | .clear => 2
  | .watch => 3
  | .warn => 4
  | .alarm => 5

def ZoneState.code : ZoneState → Nat
  | .unused => 0
  | .blind => 1
  | .risk c => RiskClass.code c

/-- The pending target is sent as 0 when absent. -/
def targetCode (t : Option RiskClass) : Nat :=
  match t with
  | some c => RiskClass.code c
  | none => 0

def Role.code : Role → Nat
  | .absent => 0
  | .air => 1
  | .surface => 2
  | .dual => 3

def Role.ofCode : Nat → Option Role
  | 0 => some .absent
  | 1 => some .air
  | 2 => some .surface
  | 3 => some .dual
  | _ => none

def Freshness.code : Freshness → Nat
  | .never => 0
  | .fresh => 1
  | .stale => 2

def ZoneTimer.code : ZoneTimer → Nat
  | .none => 0
  | .escalation _ => 1
  | .release _ => 2

def OutputMode.code : OutputMode → Nat
  | .off => 0
  | .level => 1
  | .proportional => 2

def OutputMode.ofCode : Nat → Option OutputMode
  | 0 => some .off
  | 1 => some .level
  | 2 => some .proportional
  | _ => none

def OutputLevel.code : OutputLevel → Nat
  | .watch => 3
  | .warn => 4
  | .alarm => 5

def OutputLevel.ofCode : Nat → Option OutputLevel
  | 3 => some .watch
  | 4 => some .warn
  | 5 => some .alarm
  | _ => none

def FailAction.code : FailAction → Nat
  | .off => 0
  | .on => 1
  | .hold => 2

def FailAction.ofCode : Nat → Option FailAction
  | 0 => some .off
  | 1 => some .on
  | 2 => some .hold
  | _ => none

def OutputState.code : OutputState → Nat
  | .idle => 0
  | .running => 1
  | .inhibited => 2
  | .failsafe => 3

def StartMode.code : StartMode → Nat
  | .off => 0
  | .rounds => 1
  | .continuous => 2

def StartMode.ofCode : Nat → Option StartMode
  | 0 => some .off
  | 1 => some .rounds
  | 2 => some .continuous
  | _ => none

def SweepState.code : SweepState → Nat
  | .idle => 0
  | .delaying => 1
  | .running => 2
  | .held => 3

/-- The field port's state code (TABLE 7-1). -/
def FieldPort.code : FieldPort → Nat
  | .idle => 0
  | .busy _ (.sending _ _ _) => 1
  | .busy _ (.awaiting _ _) => 2
  | .busy _ (.receiving _ _) => 3
  | .busy _ (.guarding _) => 4

def StoreState.code : StoreState → Nat
  | .idle => 0
  | .writing => 1
  | .done => 2
  | .failed => 3

def BitRate.code : BitRate → Nat
  | .b9600 => 0
  | .b19200 => 1
  | .b38400 => 2
  | .b57600 => 3

def BitRate.ofCode : Nat → Option BitRate
  | 0 => some .b9600
  | 1 => some .b19200
  | 2 => some .b38400
  | 3 => some .b57600
  | _ => none

def BankNo.code : BankNo → Nat
  | .zero => 0
  | .one => 1

/-- An off or on code (TABLE 5-8). -/
def boolOfCode : Nat → Option Bool
  | 0 => some false
  | 1 => some true
  | _ => none

/-! ### Address characters (R93) -/

/-- The 7-bit address in the low bits of an address character. -/
def addressOf (c : Byte) : BitVec 7 := c.setWidth 7

/-- The direction bit: true is up, toward the head-end. -/
def isUp (c : Byte) : Bool := c.getLsbD 7

/-- An address character with direction down. -/
def downChar (a : BitVec 7) : Byte := a.setWidth 8

/-- An address character with direction up. -/
def upChar (a : BitVec 7) : Byte := a.setWidth 8 ||| 0x80#8

/-! ### The check pair and the telegram (R91, R92) -/

/-- R92: the running sums A and B after one more character. -/
def checkStep (ab : Nat × Nat) (c : Byte) : Nat × Nat :=
  ((ab.1 + c.toNat) % 255, (ab.2 + (ab.1 + c.toNat) % 255) % 255)

/-- R92: the check pair over a run of characters. -/
def checkPair (cs : List Byte) : Nat × Nat := cs.foldl checkStep (0, 0)

/-- The characters followed by their check pair. -/
def withCheck (cs : List Byte) : List Byte :=
  cs ++ [BitVec.ofNat 8 (checkPair cs).1, BitVec.ofNat 8 (checkPair cs).2]

/-- R91: the telegram with a given address character, kind and payload. -/
def telegram (addr kind : Byte) (payload : List Byte) : List Byte :=
  withCheck (addr :: kind :: BitVec.ofNat 8 payload.length :: payload)

/-- The kind of a telegram. -/
def kindOf (t : List Byte) : Byte := charAt t 1

/-- The length character of a telegram. -/
def lengthOf (t : List Byte) : Nat := (charAt t 2).toNat

/-- The payload of a telegram. -/
def payloadOf (t : List Byte) : List Byte := (t.drop 3).take (lengthOf t)

/-- R91: a complete telegram is good when its check characters are the pair computed over the positions before them. -/
def isGood (t : List Byte) : Bool :=
  (checkPair (t.take (3 + lengthOf t))).1 == (charAt t (3 + lengthOf t)).toNat &&
  (checkPair (t.take (3 + lengthOf t))).2 == (charAt t (4 + lengthOf t)).toNat

/-- What the receiver finds once a character has been stored (R89, R91). -/
inductive Assembly where
  | unfinished | overlength | complete
deriving DecidableEq, Repr

/-- R89, R91: the length character, at position 2, may not exceed 32; check B stands at position 4 + L. -/
def assembly (t : List Byte) : Assembly :=
  if t.length < 3 then .unfinished
  else if 32 < lengthOf t then .overlength
  else if t.length < 5 + lengthOf t then .unfinished
  else .complete

/-- R87: the bits of one character in the order they are sent: start, data lowest first, mark, stop. -/
def characterBits (mark : Bool) (c : Byte) : List Bool :=
  [false] ++ (List.range 8).map (fun i => c.getLsbD i) ++ [mark, true]

/-- R87, R94: the bits of a telegram, its first character with mark 1 and the rest with mark 0. -/
def telegramBits (t : List Byte) : List Bool :=
  match t with
  | [] => []
  | c :: rest => characterBits true c ++ rest.flatMap (characterBits false)

/-! ### Clamping (R161) -/

/-- A value brought within its range, and whether the clamp acted. -/
def clampInt (lo hi x : Int) : Int × Bool :=
  if x < lo then (lo, true) else if hi < x then (hi, true) else (x, false)

/-- The same for an unsigned field. -/
def clampNat (lo hi x : Nat) : Nat × Bool :=
  if x < lo then (lo, true) else if hi < x then (hi, true) else (x, false)

/-! ### The configuration bodies (TABLE 5-10), as written and as sent

A body that is read gives the entry it stores, with every numeric field within its range (TABLE 10-2), and whether a
clamp acted; none where an index or an enumerated field is out of range. -/

/-- The zone field of a pod entry: 0 for none, or 1..16. -/
def zoneFieldOf (z : Nat) : Option (Option ZoneIx) :=
  if z = 0 then some none else (zoneOf z).map some

/-- The 18 characters of a pod entry body, from position `i`. -/
def readPodBody (p : List Byte) (i : Nat) : Option (PodEntry × Bool) :=
  match Role.ofCode (charAt p i).toNat, zoneFieldOf (charAt p (i + 1)).toNat with
  | some role, some zone =>
    if 3 < (charAt p (i + 17)).toNat then none
    else
      let ag := clampInt (-512) 511 (readSigned2 p (i + 2))
      let ao := clampInt (-500) 500 (readSigned2 p (i + 4))
      let rg := clampInt (-512) 511 (readSigned2 p (i + 6))
      let ro := clampInt (-500) 500 (readSigned2 p (i + 8))
      let sg := clampInt (-512) 511 (readSigned2 p (i + 10))
      let so := clampInt (-500) 500 (readSigned2 p (i + 12))
      let k := clampNat 0 4 (charAt p (i + 14)).toNat
      let lim := clampNat 2 3600 (readNum2 p (i + 15))
      some ({ role := role, zone := zone, airGain := ag.1, airOffset := ao.1, rhGain := rg.1, rhOffset := ro.1,
              surfGain := sg.1, surfOffset := so.1, weight := k.1, staleLimit := lim.1,
              substitute := (charAt p (i + 17)).getLsbD 0, annotate := (charAt p (i + 17)).getLsbD 1 },
            ag.2 || ao.2 || rg.2 || ro.2 || sg.2 || so.2 || k.2 || lim.2)
  | _, _ => none

/-- The pod entry body as sent. -/
def podBody (e : PodEntry) : List Byte :=
  num1 (Role.code e.role) ++ num1 (zoneNum e.zone) ++ signed2 e.airGain ++ signed2 e.airOffset ++ signed2 e.rhGain ++
  signed2 e.rhOffset ++ signed2 e.surfGain ++ signed2 e.surfOffset ++ num1 e.weight ++ num2 e.staleLimit ++
  num1 (flagNum e.substitute + 2 * flagNum e.annotate)

/-- The 13 characters of a zone entry body, from position `i`. -/
def readZoneBody (p : List Byte) (i : Nat) : Option (ZoneEntry × Bool) :=
  match boolOfCode (charAt p i).toNat with
  | some enabled =>
    let watch := clampNat 0 3000 (readNum2 p (i + 1))
    let warn := clampNat 0 3000 (readNum2 p (i + 3))
    let alarm := clampNat 0 3000 (readNum2 p (i + 5))
    let h := clampNat 0 500 (readNum2 p (i + 7))
    let esc := clampNat 0 600 (readNum2 p (i + 9))
    let rel := clampNat 0 3600 (readNum2 p (i + 11))
    some ({ enabled := enabled, watch := watch.1, warn := warn.1, alarm := alarm.1, hysteresis := h.1,
            escDelay := esc.1, relDelay := rel.1 },
          watch.2 || warn.2 || alarm.2 || h.2 || esc.2 || rel.2)
  | none => none

/-- The zone entry body as sent. -/
def zoneBody (e : ZoneEntry) : List Byte :=
  num1 (flagNum e.enabled) ++ signed2 e.watch ++ signed2 e.warn ++ signed2 e.alarm ++ signed2 e.hysteresis ++
  num2 e.escDelay ++ num2 e.relDelay

/-- The 10 characters of an output entry body, from position `i`. -/
def readOutputBody (p : List Byte) (i : Nat) : Option (OutputEntry × Bool) :=
  match OutputMode.ofCode (charAt p i).toNat, OutputLevel.ofCode (charAt p (i + 3)).toNat,
    FailAction.ofCode (charAt p (i + 9)).toNat with
  | some mode, some level, some fail =>
    let onset := clampInt (-1000) 3000 (readSigned2 p (i + 4))
    let full := clampInt (-1000) 3000 (readSigned2 p (i + 6))
    let period := clampNat 1 60 (charAt p (i + 8)).toNat
    some ({ mode := mode, zoneSet := BitVec.ofNat 16 (readNum2 p (i + 1)), level := level, onset := onset.1,
            full := full.1, period := period.1, failAction := fail },
          onset.2 || full.2 || period.2)
  | _, _, _ => none

/-- The output entry body as sent. -/
def outputBody (e : OutputEntry) : List Byte :=
  num1 (OutputMode.code e.mode) ++ num2 e.zoneSet.toNat ++ num1 (OutputLevel.code e.level) ++ signed2 e.onset ++
  signed2 e.full ++ num1 e.period ++ num1 (FailAction.code e.failAction)

/-- The 9 characters of a field settings body: the field settings and the sweep program (R162). -/
def readFieldBody (p : List Byte) : Option ((FieldSettings × SweepProgram) × Bool) :=
  match BitRate.ofCode (charAt p 0).toNat, StartMode.ofCode (charAt p 3).toNat with
  | some rate, some mode =>
    let window := clampNat 20 500 (readNum2 p 1)
    let rounds := clampNat 1 255 (charAt p 4).toNat
    let delay := clampNat 0 600 (readNum2 p 5)
    let pace := clampNat 50 10000 (readNum2 p 7)
    some (({ rate := rate, window := window.1 },
           { startMode := mode, rounds := rounds.1, startDelay := delay.1, pace := pace.1 }),
          window.2 || rounds.2 || delay.2 || pace.2)
  | _, _ => none

/-- The field settings body as sent. -/
def fieldBody (f : FieldSettings) (g : SweepProgram) : List Byte :=
  num1 (BitRate.code f.rate) ++ num2 f.window ++ num1 (StartMode.code g.startMode) ++ num1 g.rounds ++
  num2 g.startDelay ++ num2 g.pace

/-- R160, R174: the address at a place of a sweep list; 0 at or beyond its length. -/
def listAddress (l : List (Option PodIx)) (i : Nat) : Nat := podNum (l.getD i none)

/-- R181: the characters of one bank in the fixed order of the image. The order is the model's: DESIGN CHOICE, log
entry 11. -/
def bankChars (b : Bank) : List Byte :=
  b.pods.toList.flatMap podBody ++ b.zones.toList.flatMap zoneBody ++ b.outputs.toList.flatMap outputBody ++
  num1 b.sweepList.length ++ (List.range 64).flatMap (fun i => num1 (listAddress b.sweepList i)) ++
  fieldBody b.field b.program

end Sys2Proof.Machine
end

