-- ==== Sys2Proof/Machine/DewPoint.lean ====
section
/-! DEFINITION. Chapter 1: correction, clamping, filtering, the knot table, and the dew point. -/

namespace Sys2Proof.Machine

/-- Section 0.4, rounded: the exact quotient taken to the nearest integer, halves away from zero. -/
def roundQuot (p : Int) (q : Nat) : Int :=
  if 0 ≤ p then (2 * p + q) / (2 * q) else -((2 * -p + q) / (2 * q))

/-- R3: a raw value corrected by its gain and offset. -/
def corrected (x gain offset : Int) : Int := x + roundQuot (x * gain) 4096 + offset

/-- R4: a corrected temperature brought within -1000..5000, and whether the clamp acted. -/
def clampTemp (x : Int) : Int × Bool := clampInt (-1000) 5000 x

/-- R4: a corrected RH brought within 0..10000, and whether the clamp acted. -/
def clampRh (x : Int) : Int × Bool := clampInt 0 10000 x

/-- R5, R6: a filtered value seeded with, or stepped toward, the clamped corrected value. A record that does not seed
holds the value already (R20); where it does not, the value is seeded (log entry 19). -/
def filtered (seeds : Bool) (k : Nat) (old : Option Int) (c : Int) : Int :=
  match old with
  | some v => if seeds then c else v + roundQuot (c - v) (2 ^ k)
  | none => c

/-- TABLE 1-3: the saturation vapour pressures at the thirteen knots, in pascal. -/
def knots : List Int := [286, 422, 611, 872, 1228, 1705, 2339, 3169, 4246, 5628, 7384, 9593, 12350]

/-- E[i] of TABLE 1-3. -/
def knot (i : Nat) : Int := knots.getD i 12350

/-- R8: the saturation vapour pressure at a filtered air temperature. -/
def saturation (t : Int) : Int :=
  let i := ((t + 1000) / 500).toNat
  if 12 ≤ i then knot 12
  else knot i + (knot (i + 1) - knot i) * (t + 1000 - 500 * i) / 500

/-- R11: the largest knot index 0..11 whose pressure is not above e. -/
def lastKnot (e : Int) : Nat := (List.range 12).foldl (fun j i => if knot i ≤ e then i else j) 0

/-- The outcome of the dew-point stages: the dew point and the flags DRY and BELOW. -/
structure DewResult where
  dew   : Int
  dry   : Bool
  below : Bool
deriving DecidableEq, Repr

/-- R11: the dew point of a vapour pressure. -/
def dewOfPressure (e : Int) : DewResult :=
  if e < knot 0 then { dew := -1000, dry := false, below := true }
  else if knot 12 ≤ e then { dew := 5000, dry := false, below := false }
  else { dew := -1000 + 500 * lastKnot e + (e - knot (lastKnot e)) * 500 / (knot (lastKnot e + 1) - knot (lastKnot e)),
         dry := false, below := false }

/-- R10: the vapour pressure at a filtered air temperature and a filtered RH. -/
def vapourPressure (t rh : Int) : Int := saturation t * rh / 10000

/-- R9 to R11: the dew point of filtered air. -/
def dewPoint (t rh : Int) : DewResult :=
  if rh < 100 then { dew := -1000, dry := true, below := false } else dewOfPressure (vapourPressure t rh)

/-- TABLE 5-9: the payload length of a role's sample reply; an ABSENT pod has none. -/
def sampleLength : Role → Option Nat
  | .absent => none
  | .air => some 6
  | .surface => some 4
  | .dual => some 8

/-- R14: the results of one new sample written into the pod record: filtered values, dew point and the flags that
Chapter 1 decides. -/
def computeSample (e : PodEntry) (r : PodRecord) (p : List Byte) : PodRecord :=
  let seeds := r.freshness ≠ .fresh || r.reseed
  let air := clampTemp (corrected (readSigned2 p 2) e.airGain e.airOffset)
  let rh := clampRh (corrected (readNum2 p 4) e.rhGain e.rhOffset)
  let t := filtered seeds e.weight r.airTemp air.1
  let h := filtered seeds e.weight r.rh rh.1
  let d := dewPoint t h
  match e.role with
  | .absent => r
  | .air =>
    { r with airTemp := some t, rh := some h, dewPoint := some d.dew, clamped := air.2 || rh.2, dry := d.dry,
             below := d.below, reseed := false }
  | .surface =>
    let surf := clampTemp (corrected (readSigned2 p 2) e.surfGain e.surfOffset)
    { r with surfTemp := some (filtered seeds e.weight r.surfTemp surf.1), clamped := surf.2, reseed := false }
  | .dual =>
    let surf := clampTemp (corrected (readSigned2 p 6) e.surfGain e.surfOffset)
    { r with airTemp := some t, rh := some h, surfTemp := some (filtered seeds e.weight r.surfTemp surf.1),
             dewPoint := some d.dew, clamped := air.2 || rh.2 || surf.2, dry := d.dry, below := d.below,
             reseed := false }

end Sys2Proof.Machine
end

