-- ==== Sys2Proof/Machine/Flags.lean ====
section
/-! DEFINITION. Flag characters and status codes (TABLE 5-6, TABLE 5-8). -/

namespace Sys2Proof.Machine

/-- TABLE 5-8, pod record flags: bit 0 CLAMPED, 1 DRY, 2 BELOW, 3 SENSOR-FAULT, 4 RESEED, 5 LATE, 6 last sequence
present. -/
def podFlags (r : PodRecord) : Nat :=
  flagNum r.clamped + 2 * flagNum r.dry + 4 * flagNum r.below + 8 * flagNum r.sensorFault + 16 * flagNum r.reseed +
  32 * flagNum r.late + 64 * flagNum r.lastSeq.isSome

/-- TABLE 5-8, sweep flags: bit 0 DONE, 1 COVERED. -/
def sweepFlags (w : SweepRecord) : Nat := flagNum w.done + 2 * flagNum w.covered

/-- TABLE 5-8, pod status character: bit 0 is SENSOR-FAULT (R98). -/
def hasSensorFault (status : Byte) : Bool := status.getLsbD 0

/-- R98: the status character with HELD, bit 1, set. -/
def withHeld (status : Byte) : Byte := status ||| 0x02#8

/-- TABLE 5-6: the management status codes. -/
inductive Status where
  | ok | clamped | badKind | badLength | badField | busy | invalid
deriving DecidableEq, Repr

/-- TABLE 5-6: the status characters. -/
def Status.char : Status → Byte
  | .ok => 0
  | .clamped => 1
  | .badKind => 2
  | .badLength => 3
  | .badField => 4
  | .busy => 5
  | .invalid => 6

end Sys2Proof.Machine
end

