-- ==== Sys2Proof/Machine/Defaults.lean ====
section
/-! DEFINITION. The factory defaults of TABLE 10-5 and the reset values of the live records. -/

namespace Sys2Proof.Machine

/-- TABLE 10-5, each pod entry. -/
def factoryPodEntry : PodEntry :=
  { role := .absent, zone := none, airGain := 0, airOffset := 0, rhGain := 0, rhOffset := 0, surfGain := 0,
    surfOffset := 0, weight := 0, staleLimit := 120, substitute := false, annotate := false }

/-- TABLE 10-5, each zone entry. -/
def factoryZoneEntry : ZoneEntry :=
  { enabled := false, watch := 500, warn := 300, alarm := 100, hysteresis := 50, escDelay := 60, relDelay := 300 }

/-- TABLE 10-5, each output entry. -/
def factoryOutputEntry : OutputEntry :=
  { mode := .off, zoneSet := 0, level := .alarm, onset := 400, full := 100, period := 10, failAction := .on }

/-- TABLE 10-5: both banks where the image is bad (R170). -/
def factoryBank : Bank :=
  { pods := tconst 63 factoryPodEntry, zones := tconst 16 factoryZoneEntry, outputs := tconst 4 factoryOutputEntry,
    sweepList := [], program := { startMode := .off, rounds := 8, startDelay := 10, pace := 1000 },
    field := { rate := .b9600, window := 100 } }

/-- R40: a NEVER record with every optional field absent, every flag clear and both counts 0. -/
def neverPod : PodRecord :=
  { freshness := .never, lastSeq := none, payload := none, airTemp := none, rh := none, surfTemp := none,
    dewPoint := none, clamped := false, dry := false, below := false, sensorFault := false, reseed := false,
    late := false, lastReply := none, deadline := none, interval := none, missCount := 0, sampleCount := 0 }

/-- R66: a zone record at full reset, UNUSED or BLIND by its entry. -/
def resetZone (enabled : Bool) : ZoneRecord :=
  { state := if enabled then .blind else .unused, values := none, airCount := 0, surfCount := 0, target := none,
    timer := .none, lastChange := 0 }

/-- TABLE 4-3 and R68: an IDLE output. -/
def idleOutput : OutputRecord :=
  { state := .idle, pin := false, demand := 0, latched := 0, periodTimer := none, onTimer := none, isPartial := false }

/-- R158: the sweep record at full reset, before the automatic START. The sweep mode has no reset value in the spec:
DESIGN CHOICE ROUNDS, log entry 12. -/
def idleSweep : SweepRecord :=
  { state := .idle, mode := .rounds, position := 0, rounds := 0, delayTimer := none, paceTimer := none, due := false,
    done := false, coverage := tconst 63 false, covered := false }

/-- R181: an image as delivered, with both check characters at 255. What its other cells hold the spec does not say:
DESIGN CHOICE factory defaults, log entry 10. -/
def deliveredImage : Image := { bank := factoryBank, checkA := 255, checkB := 255 }

/-- R103: a slot of 37 positions in which no telegram has been stored. R114 says only that its characters are not read:
DESIGN CHOICE zeros, log entry 9. -/
def blankSlot : Slot := { text := [], beyond := List.replicate 37 0 }

end Sys2Proof.Machine
end

