-- ==== Sys2Proof/Machine/State.lean ====
section
/-! DEFINITION. The state of the part, the reasons a step may stop, and the state after reset. -/

namespace Sys2Proof.Machine

/-- Everything the spec gives the part (INVENTORY.md, State). Times are ticks of the time base. -/
structure State where
  /-- The time base (section 0.4), in ticks. -/
  now         : Nat
  /-- The part is held in reset (R185). -/
  held        : Bool
  /-- The TRATE straps as read at full reset (R137). -/
  trate       : BitVec 2
  /-- The ADDR straps as read at full reset (R137). -/
  addrStrap   : BitVec 6
  /-- The trunk port (TABLE 8-1). -/
  trunkPort   : TrunkPort
  /-- The moment from which the trunk's quiet interval counts (R90). -/
  trunkQuiet  : Nat
  /-- The sixteen slots (R103): the characters each holds, by position. -/
  slots       : Vector Slot 16
  /-- DOWN-QUEUE, head first (R108). -/
  downQ       : List SlotNo
  /-- UP-QUEUE, head first (R108). -/
  upQ         : List SlotNo
  /-- The field port with its transaction record (TABLE 7-1, TABLE 7-2). -/
  fieldPort   : FieldPort
  /-- The moment from which the field line's quiet interval counts (R90). -/
  fieldQuiet  : Nat
  /-- The 63 pod records (TABLE 2-2). -/
  pods        : Vector PodRecord 63
  /-- The 16 zone records (TABLE 3-2). -/
  zones       : Vector ZoneRecord 16
  /-- The change set, zone 1 lowest (R58). -/
  changeSet   : BitVec 16
  /-- The alert line: ALERT-N is low while it is true (R60). -/
  alert       : Bool
  /-- The 4 output records with their pins (TABLE 4-2). -/
  outputs     : Vector OutputRecord 4
  /-- The sweep record (TABLE 9-2). -/
  sweep       : SweepRecord
  /-- Bank 0 (R160). -/
  bank0       : Bank
  /-- Bank 1 (R160). -/
  bank1       : Bank
  /-- The active-bank selector (R160). -/
  selector    : BankNo
  /-- The stored image (R181). -/
  image       : Image
  /-- Store state (TABLE 12-1). -/
  storeState  : StoreState
  /-- Image-bad flag (TABLE 12-1). -/
  imageBad    : Bool
  /-- Snapshot (TABLE 12-1). -/
  snapshot    : Option Bank
  /-- Store timer (TABLE 12-1): its expiry while it runs. -/
  storeTimer  : Option Nat
  /-- The fifteen counters, in the order of `Counter`. -/
  counters    : Vector Nat 15
  /-- The model's own: how many free values have been drawn (log entry 10). -/
  freeCount   : Nat
  /-- The model's own: the commands waiting, first in first out. -/
  pending     : List Instr
deriving DecidableEq, Repr

/-- The part has no event that stops it (INVENTORY.md, Faults): no fault exists. Log entry 22. -/
inductive Fault where
deriving DecidableEq, Repr

/-- Why a command has no meaning in the model. -/
inductive Refusal where
  /-- Raised by exec alone, for a command that has no meaning yet; safe: nothing can be proved about the command. -/
  | notModelled (mnemonic : String)
deriving DecidableEq, Repr

/-- The part right after reset: start-up (R186, TABLE 12-2) of a part as delivered, whose image is invalid (R181), with
every strap low (DESIGN CHOICE, log entry 8), blank slots (DESIGN CHOICE, log entry 9). -/
def State.reset : State :=
  { now := 0, held := false, trate := 0, addrStrap := 0, trunkPort := .listening, trunkQuiet := 0,
    slots := tconst 16 blankSlot, downQ := [], upQ := [], fieldPort := .idle, fieldQuiet := 0,
    pods := tconst 63 neverPod, zones := tconst 16 (resetZone false), changeSet := 0, alert := false,
    outputs := tconst 4 idleOutput, sweep := idleSweep, bank0 := factoryBank, bank1 := factoryBank, selector := .zero,
    image := deliveredImage, storeState := .idle, imageBad := true, snapshot := none, storeTimer := none,
    counters := tconst 15 0, freeCount := 0, pending := [] }

end Sys2Proof.Machine
end

