-- ==== Sys2Proof/Machine/Ops.lean ====
section
/-! DEFINITION. The named operations over the state that the blocks share: time, counters, banks, slots and queues. -/

namespace Sys2Proof.Machine

/-! ### Time and events -/

/-- The state a time later (section 0.4: the time base runs freely). -/
def State.elapse (s : State) (dt : Nat) : State := { s with now := s.now + dt }

/-- One event of the part: the time since the event before passes, and the event has its effect, unless the part is held
in reset (R185), where no event occurs (log entry 5). -/
def event (dt : Nat) (effect : State → State) (s : State) : Host.Outcome State Fault Refusal :=
  .next (if s.held then s.elapse dt else effect (s.elapse dt))

/-! ### Counters (section 0.4: every counter saturates at 65535) -/

/-- The place of a counter in the order of TABLE 5-11. -/
def Counter.index : Counter → Fin 15
  | .trunkGood => 0
  | .trunkCheck => 1
  | .trunkFraming => 2
  | .trunkNoSlot => 3
  | .trunkDiscarded => 4
  | .fieldPolls => 5
  | .fieldReplies => 6
  | .fieldMisses => 7
  | .fieldBad => 8
  | .fieldUnsolicited => 9
  | .substitutes => 10
  | .annotated => 11
  | .annotSkipped => 12
  | .roleMismatch => 13
  | .sensorFaults => 14

/-- A saturating count raised by 1. -/
def satSucc (limit n : Nat) : Nat := if n < limit then n + 1 else n

/-- The value of a counter. -/
def State.counter (s : State) (c : Counter) : Nat := tget s.counters (Counter.index c)

/-- A counter raised by 1. -/
def State.count (s : State) (c : Counter) : State :=
  { s with counters := tset s.counters (Counter.index c) (satSucc 65535 (s.counter c)) }

/-! ### Banks (R160) -/

/-- The active bank. -/
def State.active (s : State) : Bank :=
  match s.selector with
  | .zero => s.bank0
  | .one => s.bank1

/-- The shadow bank. -/
def State.shadow (s : State) : Bank :=
  match s.selector with
  | .zero => s.bank1
  | .one => s.bank0

/-- The shadow bank replaced. -/
def State.setShadow (s : State) (b : Bank) : State :=
  match s.selector with
  | .zero => { s with bank1 := b }
  | .one => { s with bank0 := b }

/-- The active entry of a pod. -/
def State.podEntry (s : State) (i : PodIx) : PodEntry := tget s.active.pods i

/-! ### Records -/

def State.setPod (s : State) (i : PodIx) (r : PodRecord) : State := { s with pods := tset s.pods i r }

def State.setZone (s : State) (z : ZoneIx) (r : ZoneRecord) : State := { s with zones := tset s.zones z r }

def State.setOutput (s : State) (o : OutIx) (r : OutputRecord) : State := { s with outputs := tset s.outputs o r }

def State.setSweep (s : State) (w : SweepRecord) : State := { s with sweep := w }

/-! ### The trunk line (R137) -/

/-- R137: the trunk bit rate set by the TRATE straps. -/
def State.trunkRate (s : State) : BitRate := (BitRate.ofCode s.trate.toNat).getD .b9600

/-- R137: one trunk character time. -/
def State.trunkChar (s : State) : Nat := BitRate.charTime s.trunkRate

/-- R137: 64 plus the ADDR strap value; 63 gives 126. -/
def State.ownAddr (s : State) : BitVec 7 := if s.addrStrap = 63 then 126 else 64 + s.addrStrap.setWidth 7

/-! ### Slots, places and queues (Chapter 6) -/

/-- The slot in TRUNK-RX, if any. -/
def TrunkPort.rxSlot : TrunkPort → Option SlotNo
  | .receiving k _ => some k
  | _ => none

/-- The slot in TRUNK-TX, if any. -/
def TrunkPort.txSlot : TrunkPort → Option SlotNo
  | .transmitting k _ => some k
  | _ => none

/-- The slot in FIELD-TXN, if any. In GUARD there is none: R110, TABLE 6-3 and R115 move the slot out at the end of
receipt, where R109 names the guard among the phases it stays for. The model follows R110 (log entry 25). -/
def FieldPort.txnSlot : FieldPort → Option SlotNo
  | .busy _ (.sending _ _ k) => k
  | .busy _ (.awaiting _ k) => some k
  | .busy _ (.receiving _ k) => some k
  | _ => none

/-- The slots that are not FREE, place by place (TABLE 6-1). -/
def State.occupied (s : State) : List SlotNo :=
  s.trunkPort.rxSlot.toList ++ s.downQ ++ s.fieldPort.txnSlot.toList ++ s.upQ ++ s.trunkPort.txSlot.toList

/-- The FREE slots, lowest first. -/
def State.freeSlots (s : State) : List SlotNo := (List.finRange 16).filter fun k => !s.occupied.contains k

/-- R105: the slot that a claim is granted: the lowest-numbered FREE slot. -/
def State.grant (s : State) : Option SlotNo := s.freeSlots.head?

/-- R103, R109: characters written from position 0 on, over what the slot held; the positions after them keep what they
held. -/
def Slot.write (u : Slot) (t : List Byte) : Slot := { text := t, beyond := (u.text ++ u.beyond).drop t.length }

/-- The telegram in a slot, as far as it has been stored. -/
def State.slot (s : State) (k : SlotNo) : List Byte := (tget s.slots k).text

/-- A telegram, or its characters so far, written in a slot from position 0 on. -/
def State.fillSlot (s : State) (k : SlotNo) (t : List Byte) : State :=
  { s with slots := tset s.slots k ((tget s.slots k).write t) }

/-- R108: a slot joins the tail of DOWN-QUEUE. -/
def State.joinDown (s : State) (k : SlotNo) : State := { s with downQ := s.downQ ++ [k] }

/-- R108: a slot joins the tail of UP-QUEUE. -/
def State.joinUp (s : State) (k : SlotNo) : State := { s with upQ := s.upQ ++ [k] }

/-! ### The ports -/

def State.setTrunk (s : State) (p : TrunkPort) : State := { s with trunkPort := p }

def State.setField (s : State) (p : FieldPort) : State := { s with fieldPort := p }

/-- R90: a character on the trunk has ended, or the part's own sending has; the quiet interval counts from now. -/
def State.touchTrunk (s : State) : State := { s with trunkQuiet := s.now }

/-- R90: the same for the field line. -/
def State.touchField (s : State) : State := { s with fieldQuiet := s.now }

/-! ### The pins that follow from the state -/

/-- TRK-DE is asserted only in TRANSMITTING (R138). -/
def State.trkDe (s : State) : Bool := s.trunkPort.txSlot.isSome

/-- FLD-DE is asserted exactly in SENDING (R115). -/
def State.fldDe (s : State) : Bool := FieldPort.code s.fieldPort = 1

/-- The bits of the telegram that TRK-TXD carries while the part transmits (R87, R143). -/
def State.trkTxd (s : State) : List Bool :=
  match s.trunkPort with
  | .transmitting k _ => telegramBits (s.slot k)
  | _ => []

/-- The bits of the telegram that FLD-TXD carries in SENDING: the port's own copy (R120). -/
def State.fldTxd (s : State) : List Bool :=
  match s.fieldPort with
  | .busy _ (.sending copy _ _) => telegramBits copy
  | _ => []

end Sys2Proof.Machine
end

