-- ==== Sys2Proof/Machine/Sweep.lean ====
section
/-! DEFINITION. Chapter 9: the sweep scheduler. -/

namespace Sys2Proof.Machine

/-- The start mode as a sweep mode; OFF starts no sweep. -/
def SweepMode.ofStart : StartMode → Option SweepMode
  | .off => none
  | .rounds => some .rounds
  | .continuous => some .continuous

/-- R151: entry to RUNNING sets due at once. -/
def enterRunning (w : SweepRecord) : SweepRecord :=
  { w with state := .running, delayTimer := none, paceTimer := none, due := true }

/-- R149: the sweep started afresh by a START that is taken. -/
def startSweep (mode : SweepMode) (g : SweepProgram) (now : Nat) (w : SweepRecord) : SweepRecord :=
  let w' := { w with mode := mode, position := 0, rounds := g.rounds, delayTimer := none, paceTimer := none,
                     due := false, done := false, coverage := tconst 63 false, covered := false }
  if g.startDelay = 0 then enterRunning w'
  else { w' with state := .delaying, delayTimer := some (now + sec g.startDelay) }

/-- R149: a START, or none where it is refused for mode OFF or an empty list. -/
def State.sweepStart (s : State) : Option State :=
  match SweepMode.ofStart s.active.program.startMode, s.active.sweepList with
  | some mode, _ :: _ => some (s.setSweep (startSweep mode s.active.program s.now s.sweep))
  | _, _ => none

/-- R150: a STOP. -/
def stopSweep (w : SweepRecord) : SweepRecord :=
  if w.state = .delaying ∨ w.state = .running then
    { w with state := .held, delayTimer := none, paceTimer := none, due := false }
  else w

/-- R150: a RESUME, or none where it is refused. -/
def State.sweepResume (s : State) : Option State :=
  if s.sweep.state = .held then some (s.setSweep (enterRunning s.sweep)) else none

/-- R152: what the scheduler does when its poll starts, with the length of the active list and the pace in force. -/
def pollStarted (len pace now : Nat) (w : SweepRecord) : SweepRecord :=
  let w1 := { w with due := false, position := w.position + 1 }
  if w1.position = len then
    let w2 := { w1 with position := 0 }
    match w2.mode with
    | .continuous => { w2 with paceTimer := some (now + ms pace) }
    | .rounds =>
      if w2.rounds - 1 = 0 then { w2 with rounds := 0, state := .idle, done := true }
      else { w2 with rounds := w2.rounds - 1, paceTimer := some (now + ms pace) }
  else { w1 with paceTimer := some (now + ms pace) }

/-- R155: every distinct pod of a list is in a coverage set. -/
def covers (coverage : Vector Bool 63) (l : List (Option PodIx)) : Bool :=
  l.all fun a =>
    match a with
    | some i => tget coverage i
    | none => true

/-- R155: a pod whose reply was accepted enters the coverage set when the active list names it and it is not there yet. -/
def State.enterCoverage (s : State) (i : PodIx) : State :=
  if s.active.sweepList.contains (some i) && !tget s.sweep.coverage i then
    s.setSweep { s.sweep with
      coverage := tset s.sweep.coverage i true,
      covered := s.sweep.covered || covers (tset s.sweep.coverage i true) s.active.sweepList }
  else s

/-- R156: the sweep at a swap, with the new active list. -/
def swapSweep (l : List (Option PodIx)) (w : SweepRecord) : SweepRecord :=
  let w' := { w with position := 0, coverage := tconst 63 false, covered := false }
  if l = [] ∧ w.state ≠ .idle then
    { w' with state := .idle, delayTimer := none, paceTimer := none, due := false, rounds := 0 }
  else w'

/-- R157: the sweep at FIELD-RESTART. The sweep mode, of which the rule says nothing, is kept. -/
def restartSweep (w : SweepRecord) : SweepRecord := { idleSweep with mode := w.mode }

/-- R158: the automatic START at full reset; where it would be refused it is not taken. -/
def State.automaticStart (s : State) : State := s.sweepStart.getD s

/-- R151: the effect of the delay timer's expiry. -/
def State.delayExpiry (s : State) : State :=
  if s.sweep.state = .delaying ∧ isDue s.now s.sweep.delayTimer then s.setSweep (enterRunning s.sweep) else s

/-- R153: the effect of the pace timer's expiry. -/
def State.paceExpiry (s : State) : State :=
  if s.sweep.state = .running ∧ isDue s.now s.sweep.paceTimer then
    s.setSweep { s.sweep with paceTimer := none, due := true }
  else s

/-- DELAY_TIMER_EXPIRY (R151). -/
def execDelayTimerExpiry (dt : Nat) (s : State) : Host.Outcome State Fault Refusal := event dt State.delayExpiry s

/-- PACE_TIMER_EXPIRY (R153). -/
def execPaceTimerExpiry (dt : Nat) (s : State) : Host.Outcome State Fault Refusal := event dt State.paceExpiry s

end Sys2Proof.Machine
end

