-- ==== Sys2Proof/Machine/Outputs.lean ====
section
/-! DEFINITION. Chapter 4: the action outputs, their re-drive, period cycle, inhibit and release. -/

namespace Sys2Proof.Machine

/-- Section 3.3: severity rises CLEAR, WATCH, WARN, ALARM. -/
def RiskClass.severity : RiskClass → Nat
  | .clear => 0
  | .watch => 1
  | .warn => 2
  | .alarm => 3

/-- R71: the severity from which a LEVEL output is on. -/
def OutputLevel.severity : OutputLevel → Nat
  | .watch => 1
  | .warn => 2
  | .alarm => 3

/-! ### The mapped zones (section 4.2) -/

/-- The records of the zones in an output's zone set. -/
def mappedZones (e : OutputEntry) (zones : Vector ZoneRecord 16) : List ZoneRecord :=
  (List.finRange 16).filterMap fun z => if e.zoneSet.getLsbD z.val then some (tget zones z) else none

/-- A mapped zone is seen when it is at a risk state. -/
def ZoneRecord.isSeen (z : ZoneRecord) : Bool :=
  match z.state with
  | .risk _ => true
  | _ => false

/-- One or more mapped zones are seen. -/
def anySeen (e : OutputEntry) (zones : Vector ZoneRecord 16) : Bool := (mappedZones e zones).any ZoneRecord.isSeen

/-- R70: one or more mapped zones are blind. -/
def anyBlind (e : OutputEntry) (zones : Vector ZoneRecord 16) : Bool :=
  (mappedZones e zones).any fun z => z.state = .blind

/-- R71: any seen mapped zone stands at or above the level. -/
def levelPin (e : OutputEntry) (zones : Vector ZoneRecord 16) : Bool :=
  (mappedZones e zones).any fun z =>
    match z.state with
    | .risk c => OutputLevel.severity e.level ≤ RiskClass.severity c
    | _ => false

/-- The margins of the seen mapped zones. -/
def seenMargins (e : OutputEntry) (zones : Vector ZoneRecord 16) : List Int :=
  (mappedZones e zones).filterMap fun z => if z.isSeen then z.values.map (·.margin) else none

/-- R72: the demand at a lowest margin m. -/
def demandAt (e : OutputEntry) (m : Int) : Nat :=
  if e.onset ≤ m then 0
  else if m ≤ e.full then 100
  else ((e.onset - m) * 100 / (e.onset - e.full)).toNat

/-- R72: the demand from the lowest margin among the seen mapped zones. A seen zone always has a margin (R43); where
none has, the demand stays (log entry 19). -/
def demandOf (e : OutputEntry) (zones : Vector ZoneRecord 16) (old : Nat) : Nat :=
  match seenMargins e zones with
  | [] => old
  | m :: ms => demandAt e (ms.foldl min m)

/-! ### The pin -/

/-- Section 4.2, the cycle level: on while the on-time timer runs, on throughout a period whose latched duty is 100. -/
def OutputRecord.cycleLevel (r : OutputRecord) : Bool := r.onTimer.isSome || r.latched = 100

/-- R76: the pin of an output that enters FAILSAFE. -/
def failPin (e : OutputEntry) (r : OutputRecord) : Bool :=
  match e.failAction with
  | .off => false
  | .on => true
  | .hold => if e.mode = .proportional then r.cycleLevel else r.pin

/-- R76: an output enters FAILSAFE. -/
def enterFailsafe (e : OutputEntry) (r : OutputRecord) : OutputRecord :=
  { r with state := .failsafe, isPartial := false, pin := failPin e r }

/-- R73, R74: the outputs whose pin follows the cycle level: RUNNING, and FAILSAFE with HOLD. -/
def drivesCycle (e : OutputEntry) (r : OutputRecord) : Bool :=
  r.state = .running || (r.state = .failsafe && e.failAction = .hold)

/-! ### Re-drive (R69) -/

/-- R69, R70, R71, R72, R75, R76, R78: a re-drive of one output. -/
def redriveRecord (e : OutputEntry) (zones : Vector ZoneRecord 16) (r : OutputRecord) : OutputRecord :=
  if r.state = .idle ∨ r.state = .inhibited then r
  else if anySeen e zones then
    match e.mode with
    | .off => r
    | .level => { r with state := .running, isPartial := anyBlind e zones, pin := levelPin e zones }
    | .proportional =>
      { r with state := .running, isPartial := anyBlind e zones, demand := demandOf e zones r.demand,
               pin := r.cycleLevel }
  else if r.state = .failsafe then r
  else enterFailsafe e r

/-- R67: a zone handed over re-drives every output whose zone set includes it. -/
def State.redrive (s : State) (z : ZoneIx) : State :=
  { s with outputs := tmap s.outputs fun o r =>
      if (tget s.active.outputs o).zoneSet.getLsbD z.val then redriveRecord (tget s.active.outputs o) s.zones r else r }

/-- R85: every output is re-driven once. -/
def State.redriveAll (s : State) : State :=
  { s with outputs := tmap s.outputs fun o r => redriveRecord (tget s.active.outputs o) s.zones r }

/-! ### The period cycle (R73, R74, R77) -/

/-- R73: a period start with a given latched duty. -/
def periodStart (e : OutputEntry) (now duty : Nat) (r : OutputRecord) : OutputRecord :=
  let r' := { r with latched := duty, periodTimer := some (now + sec e.period),
                     onTimer := if 0 < duty ∧ duty < 100 then some (now + ms (e.period * duty * 10)) else none }
  { r' with pin :=
      match r.state, e.failAction with
      | .running, _ => r'.cycleLevel
      | .failsafe, .hold => r'.cycleLevel
      | .failsafe, .off => false
      | .failsafe, .on => true
      | _, _ => r.pin }

/-- R74: the on-time timer has expired. -/
def onTimeEnds (e : OutputEntry) (r : OutputRecord) : OutputRecord :=
  { r with onTimer := none, pin := if drivesCycle e r then false else r.pin }

/-- R74, R77: the period timer has expired; a RUNNING output latches its demand, one in FAILSAFE keeps its duty. -/
def periodEnds (e : OutputEntry) (now : Nat) (r : OutputRecord) : OutputRecord :=
  periodStart e now (if r.state = .running then r.demand else r.latched) r

/-! ### Recomputing an output: release, swap and full reset -/

/-- R80, R83: a LEVEL output recomputed; demand and latched duty 0, timers stopped (R68). -/
def recomputeLevel (e : OutputEntry) (zones : Vector ZoneRecord 16) (r : OutputRecord) : OutputRecord :=
  let r' := { r with demand := 0, latched := 0, periodTimer := none, onTimer := none }
  if anySeen e zones then
    { r' with state := .running, isPartial := anyBlind e zones, pin := levelPin e zones }
  else enterFailsafe e r'

/-- R80, R83: a PROPORTIONAL output recomputed, with a new period at once. Where no mapped zone is seen the demand and
the latched duty are the demand it holds. -/
def recomputeProportional (e : OutputEntry) (zones : Vector ZoneRecord 16) (now holds : Nat) (r : OutputRecord) :
    OutputRecord :=
  if anySeen e zones then
    periodStart e now (demandOf e zones holds)
      { r with state := .running, isPartial := anyBlind e zones, demand := demandOf e zones holds }
  else periodStart e now holds { r with state := .failsafe, isPartial := false, demand := holds }

/-- R79: an INHIBIT of an output whose mode is not OFF. -/
def inhibitRecord (r : OutputRecord) : OutputRecord :=
  { r with state := .inhibited, pin := false, periodTimer := none, onTimer := none }

/-- R80: a RELEASE. R81 says that a RELEASE and a re-drive that fall together end in the same state in both orders. The
model takes each event by its own rule, R80 and R69, and reads that as the output's state (TABLE 4-3): the state and
PARTIAL are the same in both orders, while the demand, the latched duty with its timers, and the pin of a PROPORTIONAL or a
HOLD output may differ by order (log entry 27). -/
def releaseRecord (e : OutputEntry) (zones : Vector ZoneRecord 16) (now : Nat) (r : OutputRecord) : OutputRecord :=
  if r.state = .inhibited then
    match e.mode with
    | .off => r
    | .level => recomputeLevel e zones r
    | .proportional => recomputeProportional e zones now r.demand r
  else r

/-- R83: an output at a swap, from its outgoing and its incoming entry. -/
def swapOutput (old new : OutputEntry) (zones : Vector ZoneRecord 16) (now : Nat) (r : OutputRecord) : OutputRecord :=
  match new.mode with
  | .off => idleOutput
  | .level => if r.state = .inhibited then r else recomputeLevel new zones r
  | .proportional =>
    if r.state = .inhibited then r
    else recomputeProportional new zones now (if old.mode = .proportional then r.demand else 0) r

/-- R86: an output at full reset. Every mapped zone is BLIND then. -/
def startOutput (e : OutputEntry) : OutputRecord :=
  match e.mode with
  | .off => idleOutput
  | .level => enterFailsafe e idleOutput
  | .proportional => periodStart e 0 0 { idleOutput with state := .failsafe }

/-! ### The commands of the output timers -/

/-- R74: the effect of the on-time timer's expiry. -/
def State.onTimeExpiry (s : State) (o : OutIx) : State :=
  if isDue s.now (tget s.outputs o).onTimer then
    s.setOutput o (onTimeEnds (tget s.active.outputs o) (tget s.outputs o))
  else s

/-- R74: the effect of the period timer's expiry. -/
def State.periodExpiry (s : State) (o : OutIx) : State :=
  if isDue s.now (tget s.outputs o).periodTimer then
    s.setOutput o (periodEnds (tget s.active.outputs o) s.now (tget s.outputs o))
  else s

/-- ON_TIME_TIMER_EXPIRY (R74). -/
def execOnTimeTimerExpiry (dt : Nat) (output : OutIx) (s : State) : Host.Outcome State Fault Refusal :=
  event dt (fun s => s.onTimeExpiry output) s

/-- PERIOD_TIMER_EXPIRY (R74, R77). -/
def execPeriodTimerExpiry (dt : Nat) (output : OutIx) (s : State) : Host.Outcome State Fault Refusal :=
  event dt (fun s => s.periodExpiry output) s

end Sys2Proof.Machine
end

