-- ==== Sys2Proof/Machine/Zones.lean ====
section
/-! DEFINITION. Chapter 3: membership, evaluation, the risk state machine, the change set and the alert line. -/

namespace Sys2Proof.Machine

/-! ### Membership and the fresh contributors (R42, R46) -/

/-- R42: the roles of air contributors. -/
def Role.isAir : Role → Bool
  | .air => true
  | .dual => true
  | _ => false

/-- R42: the roles of surface contributors. -/
def Role.isSurface : Role → Bool
  | .surface => true
  | .dual => true
  | _ => false

/-- R46: the FRESH air contributors of a zone with their dew points, in rising address. -/
def State.freshAir (s : State) (z : ZoneIx) : List (PodIx × Int) :=
  (List.finRange 63).filterMap fun i =>
    if (s.podEntry i).zone = some z ∧ Role.isAir (s.podEntry i).role ∧ (tget s.pods i).freshness = .fresh then
      (tget s.pods i).dewPoint.map fun d => (i, d)
    else none

/-- R46: the FRESH surface contributors of a zone with their filtered surface temperatures, in rising address. -/
def State.freshSurface (s : State) (z : ZoneIx) : List (PodIx × Int) :=
  (List.finRange 63).filterMap fun i =>
    if (s.podEntry i).zone = some z ∧ Role.isSurface (s.podEntry i).role ∧ (tget s.pods i).freshness = .fresh then
      (tget s.pods i).surfTemp.map fun t => (i, t)
    else none

/-- R47: the highest value, at the lowest address that holds it. -/
def highest (x : PodIx × Int) (xs : List (PodIx × Int)) : PodIx × Int :=
  xs.foldl (fun b y => if b.2 < y.2 then y else b) x

/-- R47: the lowest value, at the lowest address that holds it. -/
def lowest (x : PodIx × Int) (xs : List (PodIx × Int)) : PodIx × Int :=
  xs.foldl (fun b y => if y.2 < b.2 then y else b) x

/-! ### Classes (R48, R49) -/

/-- TABLE 3-4: the class of a margin against three thresholds. -/
def classAgainst (alarm warn watch m : Int) : RiskClass :=
  if m < alarm then .alarm else if m < warn then .warn else if m < watch then .watch else .clear

/-- R48: the escalation class. -/
def escalationClass (e : ZoneEntry) (m : Int) : RiskClass := classAgainst e.alarm e.warn e.watch m

/-- R49: the release class. -/
def releaseClass (e : ZoneEntry) (m : Int) : RiskClass :=
  classAgainst (e.alarm + e.hysteresis) (e.warn + e.hysteresis) (e.watch + e.hysteresis) m

/-! ### One evaluation (R45 to R53) -/

/-- R46: a zone without sight: BLIND, with no timer, no target and no values. -/
def blindZone (airCount surfCount : Nat) (r : ZoneRecord) : ZoneRecord :=
  { r with state := .blind, values := none, airCount := airCount, surfCount := surfCount, target := none,
           timer := .none }

/-- R51: the timer of an escalation: one running goes on, otherwise one starts. -/
def escalationTimer (expiry : Nat) : ZoneTimer → ZoneTimer
  | .escalation t => .escalation t
  | _ => .escalation expiry

/-- R52: the timer of a release: one running goes on, otherwise one starts. -/
def releaseTimer (expiry : Nat) : ZoneTimer → ZoneTimer
  | .release t => .release t
  | _ => .release expiry

/-- The zone at a risk state with no timer. -/
def atRest (c : RiskClass) (r : ZoneRecord) : ZoneRecord := { r with state := .risk c, target := none, timer := .none }

/-- R50 to R53: the state step of an evaluation whose margin is m. -/
def stateStep (e : ZoneEntry) (now : Nat) (m : Int) (r : ZoneRecord) : ZoneRecord :=
  match r.state with
  | .risk c =>
    if RiskClass.severity c < RiskClass.severity (escalationClass e m) then
      if e.escDelay = 0 then atRest (escalationClass e m) r
      else { r with target := some (escalationClass e m), timer := escalationTimer (now + sec e.escDelay) r.timer }
    else if RiskClass.severity (releaseClass e m) < RiskClass.severity c then
      if e.relDelay = 0 then atRest (releaseClass e m) r
      else { r with target := some (releaseClass e m), timer := releaseTimer (now + sec e.relDelay) r.timer }
    else atRest c r
  | _ => atRest (escalationClass e m) r

/-- R46, R47: the zone values that the fresh contributors give. -/
def valuesOf (air surf : PodIx × Int) : ZoneValues :=
  { dew := air.2, surface := surf.2, margin := surf.2 - air.2, worstDew := air.1, coldestSurf := surf.1 }

/-- R46 to R53: an evaluation of a zone record from its fresh contributors. -/
def evaluateRecord (e : ZoneEntry) (now : Nat) (air surf : List (PodIx × Int)) (r : ZoneRecord) : ZoneRecord :=
  match air, surf with
  | a :: as, f :: fs =>
    let v := valuesOf (highest a as) (lowest f fs)
    stateStep e now v.margin
      { r with values := some v, airCount := air.length, surfCount := surf.length }
  | _, _ => blindZone air.length surf.length r

/-! ### What a state change sets off (R56 to R60) -/

/-- R60: a zone stands at ALARM. -/
def anyAlarm (zones : Vector ZoneRecord 16) : Bool := zones.toList.any fun z => z.state = .risk .alarm

/-- R58: the bit of a zone in the change set. -/
def zoneBit (z : ZoneIx) : BitVec 16 := 1#16 <<< z.val

/-- R56: a zone record is written; where its state changes, the moment is kept, the zone joins the change set and the
alert line is recomputed. The hand-over to the output controller is the caller's. -/
def State.putZone (s : State) (z : ZoneIx) (r : ZoneRecord) : State :=
  if r.state = (tget s.zones z).state then s.setZone z r
  else
    { s with zones := tset s.zones z { r with lastChange := s.now }, changeSet := s.changeSet ||| zoneBit z,
             alert := anyAlarm (tset s.zones z { r with lastChange := s.now }) }

/-- The margin of a zone record, absent outside the risk states. -/
def ZoneRecord.margin (r : ZoneRecord) : Option Int := r.values.map (·.margin)

/-- R56, R57: an event hands a zone over when its state or its margin has changed. -/
def handsOver (old new : ZoneRecord) : Bool := new.state ≠ old.state || new.margin ≠ old.margin

/-- R45: the record that an evaluation of a zone gives. -/
def State.evaluated (s : State) (z : ZoneIx) : ZoneRecord :=
  evaluateRecord (tget s.active.zones z) s.now (s.freshAir z) (s.freshSurface z) (tget s.zones z)

/-- R45: an evaluation of an enabled zone, without the hand-over. -/
def State.evaluateOnly (s : State) (z : ZoneIx) : State :=
  if (tget s.active.zones z).enabled then s.putZone z (s.evaluated z) else s

/-- A zone record written, with its hand-over (R56, R57). -/
def State.putAndHandOver (s : State) (z : ZoneIx) (r : ZoneRecord) : State :=
  if handsOver (tget s.zones z) r then (s.putZone z r).redrive z else s.putZone z r

/-- R45, R57: an evaluation of a zone handed to the evaluator; a disabled zone is not evaluated. -/
def State.evaluate (s : State) (z : ZoneIx) : State :=
  if (tget s.active.zones z).enabled then s.putAndHandOver z (s.evaluated z) else s

/-- R27, R29: the zone that a pod's entry names, if any, is evaluated. -/
def State.evaluatePodZone (s : State) (i : PodIx) : State :=
  match (s.podEntry i).zone with
  | some z => s.evaluate z
  | none => s

/-! ### Timer expiry (R54) -/

/-- A zone timer's expiry, while it runs. -/
def ZoneTimer.expiry : ZoneTimer → Option Nat
  | .none => Option.none
  | .escalation t => some t
  | .release t => some t

/-- R54: the effect of a zone timer's expiry. -/
def State.zoneExpiry (s : State) (z : ZoneIx) : State :=
  match (tget s.zones z).target with
  | some c =>
    if isDue s.now (tget s.zones z).timer.expiry then s.putAndHandOver z (atRest c (tget s.zones z)) else s
  | none => s

/-- ZONE_TIMER_EXPIRY (R54). -/
def execZoneTimerExpiry (dt : Nat) (zone : ZoneIx) (s : State) : Host.Outcome State Fault Refusal :=
  event dt (fun s => s.zoneExpiry zone) s

/-! ### Swap and field restart (R63, R65) -/

/-- R63: a zone record at a swap, before the evaluations. -/
def swapZone (enabled : Bool) (r : ZoneRecord) : ZoneRecord :=
  if enabled then
    if r.state = .unused then blindZone 0 0 r else { r with target := none, timer := .none }
  else { r with state := .unused, values := none, airCount := 0, surfCount := 0, target := none, timer := .none }

/-- R63: the zones at a swap, with the new bank already active. The output controller re-initialises every output
afterwards (R83), so nothing is handed over here. -/
def State.zonesAtSwap (s : State) : State :=
  (List.finRange 16).foldl State.evaluateOnly
    ((List.finRange 16).foldl
      (fun t z => t.putZone z (swapZone (tget t.active.zones z).enabled (tget t.zones z))) s)

/-- R65: the zones at FIELD-RESTART; the output controller re-drives every output afterwards (R85). -/
def State.zonesAtRestart (s : State) : State :=
  (List.finRange 16).foldl
    (fun t z => if (tget t.active.zones z).enabled then t.putZone z (blindZone 0 0 (tget t.zones z)) else t) s

/-- R61, R62: the zone state code and margin that the zone evaluator supplies for a pod's zone. -/
def State.zoneFacts (s : State) (z : Option ZoneIx) : Nat × Option Int :=
  match z with
  | some k => (ZoneState.code (tget s.zones k).state, (tget s.zones k).margin)
  | none => (0, none)

end Sys2Proof.Machine
end

