-- ==== Sys2Proof/Machine/Samples.lean ====
section
/-! DEFINITION. Chapter 2: taking a sample reply, staleness, misses, and the pod records at swap and field restart. -/

namespace Sys2Proof.Machine

/-- TABLE 2-4: what becomes of a taken reply. -/
inductive Taking where
  | refused | faultReport | repeated | newSample
deriving DecidableEq, Repr

/-- R22, R23, R25, R26: which of the four a taken reply is. -/
def takingOf (e : PodEntry) (r : PodRecord) (p : List Byte) : Taking :=
  if sampleLength e.role ≠ some p.length then .refused
  else if hasSensorFault (charAt p 0) then .faultReport
  else if r.freshness = .fresh ∧ r.lastSeq = some (charAt p 1) then .repeated
  else .newSample

/-- R24: acceptance. -/
def acceptRecord (e : PodEntry) (now : Nat) (r : PodRecord) : PodRecord :=
  match r.lastReply with
  | some t =>
    { r with missCount := 0, sensorFault := false, interval := some (wholeUnits (ms 100) (now - t)),
             late := sec e.staleLimit < now - t, lastReply := some now }
  | none => { r with missCount := 0, sensorFault := false, lastReply := some now }

/-- R22 to R26: the pod record that a taken reply leaves. -/
def takenRecord (e : PodEntry) (now : Nat) (r : PodRecord) (p : List Byte) : PodRecord :=
  match takingOf e r p with
  | .refused => r
  | .faultReport => { r with sensorFault := true, missCount := 0 }
  | .repeated => { acceptRecord e now r with deadline := some (now + sec e.staleLimit) }
  | .newSample =>
    { computeSample e (acceptRecord e now r) p with
        lastSeq := some (charAt p 1), payload := some p, freshness := .fresh,
        deadline := some (now + sec e.staleLimit), sampleCount := satSucc 65535 r.sampleCount }

/-- R21 to R27, R155: the sample engine takes a delivered reply for a pod whose role is not ABSENT, in one event. -/
def State.takeReply (s : State) (i : PodIx) (p : List Byte) : State :=
  let t := s.setPod i (takenRecord (s.podEntry i) s.now (tget s.pods i) p)
  match takingOf (s.podEntry i) (tget s.pods i) p with
  | .refused => t.count .roleMismatch
  | .faultReport => t.count .sensorFaults
  | .repeated => t.enterCoverage i
  | .newSample => (t.enterCoverage i).evaluatePodZone i

/-- R33: the age of a record in seconds; 65535 with no last accepted reply time. -/
def ageOf (now : Nat) (r : PodRecord) : Nat :=
  match r.lastReply with
  | some t => wholeUnits (sec 1) (now - t)
  | none => 65535

/-- R29: a record whose deadline has passed becomes STALE; everything else is held. -/
def staleRecord (r : PodRecord) : PodRecord := { r with freshness := .stale, deadline := none }

/-- R29: the effect of a stale deadline's expiry. -/
def State.staleExpiry (s : State) (i : PodIx) : State :=
  if (tget s.pods i).freshness = .fresh ∧ isDue s.now (tget s.pods i).deadline then
    (s.setPod i (staleRecord (tget s.pods i))).evaluatePodZone i
  else s

/-- R31: a miss at a pod address. -/
def State.countMiss (s : State) (i : PodIx) : State :=
  s.setPod i { tget s.pods i with missCount := satSucc 255 (tget s.pods i).missCount }

/-! ### Swap and field restart -/

/-- R36: a record returned to NEVER, its miss count kept. -/
def returnedToNever (r : PodRecord) : PodRecord := { neverPod with missCount := r.missCount }

/-- R37: the calibration that a role uses, or the filter weight, differs. -/
def calibrationDiffers (old new : PodEntry) : Bool :=
  (Role.isAir new.role && (old.airGain ≠ new.airGain || old.airOffset ≠ new.airOffset ||
    old.rhGain ≠ new.rhGain || old.rhOffset ≠ new.rhOffset)) ||
  (Role.isSurface new.role && (old.surfGain ≠ new.surfGain || old.surfOffset ≠ new.surfOffset)) ||
  old.weight ≠ new.weight

/-- R38: a FRESH record whose stale limit has changed; STALE at once where the new deadline is not later than now. -/
def relimited (limit now : Nat) (r : PodRecord) : PodRecord :=
  match r.freshness, r.lastReply with
  | .fresh, some t =>
    if t + sec limit ≤ now then staleRecord r else { r with deadline := some (t + sec limit) }
  | _, _ => r

/-- R35 to R38: a pod record at a swap, from its outgoing and its incoming entry. -/
def swapPod (old new : PodEntry) (now : Nat) (r : PodRecord) : PodRecord :=
  if old.role ≠ new.role then returnedToNever r
  else
    let r1 := if calibrationDiffers old new then { r with reseed := true } else r
    if old.staleLimit ≠ new.staleLimit then relimited new.staleLimit now r1 else r1

/-- R39: every pod record at FIELD-RESTART. -/
def State.podsAtRestart (s : State) : State := { s with pods := tconst 63 neverPod }

/-- STALE_DEADLINE_EXPIRY (R29). -/
def execStaleDeadlineExpiry (dt : Nat) (pod : PodIx) (s : State) : Host.Outcome State Fault Refusal :=
  event dt (fun s => s.staleExpiry pod) s

end Sys2Proof.Machine
end

