-- ==== Sys2Proof/Machine/Banks.lean ====
section
/-! DEFINITION. Chapter 10: writing the shadow bank, COPY-ACTIVE, swap validation and the flip. -/

namespace Sys2Proof.Machine

/-! ### Writes (R161 to R163) -/

/-- R163: the sweep list after a segment write: `start`, new length `len`, and the addresses of the segment. -/
def writtenList (old : List (Option PodIx)) (start len : Nat) (addrs : List (Option PodIx)) : List (Option PodIx) :=
  (List.range len).map fun j =>
    if start ≤ j ∧ j < start + addrs.length then addrs.getD (j - start) none else old.getD j none

/-- R163: the four refusals of a segment write; `addrs` is the address characters read as pods, none for one outside
1..63. -/
def listWriteRefused (start len : Nat) (addrs : List (Option PodIx)) : Bool :=
  64 < len || len < start || 64 < start + addrs.length || addrs.contains none

/-! ### Swap validation (R165) -/

/-- TABLE 10-4: the reasons for which a swap is refused. -/
inductive SwapReason where
  | noAir | noSurface | tooManyAir | tooManySurface | thresholdOrder | outputEmpty | outputZoneUnused | outputOrder
  | sweepAbsent
deriving DecidableEq, Repr

/-- TABLE 5-8: the reason codes. -/
def SwapReason.code : SwapReason → Nat
  | .noAir => 1
  | .noSurface => 2
  | .tooManyAir => 3
  | .tooManySurface => 4
  | .thresholdOrder => 5
  | .outputEmpty => 6
  | .outputZoneUnused => 7
  | .outputOrder => 8
  | .sweepAbsent => 9

/-- R42: the air contributors of a zone in a bank. -/
def Bank.airMembers (b : Bank) (z : ZoneIx) : List PodIx :=
  (List.finRange 63).filter fun i => (tget b.pods i).zone = some z && Role.isAir (tget b.pods i).role

/-- R42: the surface contributors of a zone in a bank. -/
def Bank.surfaceMembers (b : Bank) (z : ZoneIx) : List PodIx :=
  (List.finRange 63).filter fun i => (tget b.pods i).zone = some z && Role.isSurface (tget b.pods i).role

/-- TABLE 10-4, order 1: the first check that an enabled zone fails. -/
def zoneFault (b : Bank) (z : ZoneIx) : Option SwapReason :=
  let e := tget b.zones z
  let air := (Bank.airMembers b z).length
  let surf := (Bank.surfaceMembers b z).length
  if !e.enabled then none
  else if air = 0 then some .noAir
  else if surf = 0 then some .noSurface
  else if 8 < air then some .tooManyAir
  else if 8 < surf then some .tooManySurface
  else if e.alarm < e.warn ∧ e.warn < e.watch then none
  else some .thresholdOrder

/-- A zone in an output's zone set is not enabled in the bank. -/
def mapsUnused (b : Bank) (e : OutputEntry) : Bool :=
  (List.finRange 16).any fun z => e.zoneSet.getLsbD z.val && !(tget b.zones z).enabled

/-- TABLE 10-4, order 2: the first check that an output fails. -/
def outputFault (b : Bank) (o : OutIx) : Option SwapReason :=
  let e := tget b.outputs o
  if e.mode = .off then none
  else if e.zoneSet = 0 then some .outputEmpty
  else if mapsUnused b e then some .outputZoneUnused
  else if e.mode = .proportional ∧ e.onset ≤ e.full then some .outputOrder
  else none

/-- TABLE 10-4, order 3: a place of the sweep list that holds address 0 or names an ABSENT pod. -/
def listFault (b : Bank) (a : Option PodIx) : Option SwapReason :=
  match a with
  | none => some .sweepAbsent
  | some i => if (tget b.pods i).role = .absent then some .sweepAbsent else none

/-- R165: the first check that fails, with the index reported. -/
def validate (b : Bank) : Option (SwapReason × Nat) :=
  match (List.finRange 16).findSome? fun z => (zoneFault b z).map fun r => (r, z.val + 1) with
  | some f => some f
  | none =>
    match (List.finRange 4).findSome? fun o => (outputFault b o).map fun r => (r, o.val + 1) with
    | some f => some f
    | none => (b.sweepList.zipIdx).findSome? fun p => (listFault b p.1).map fun r => (r, p.2)

/-! ### The flip (R167, R168) -/

/-- The other bank. -/
def BankNo.other : BankNo → BankNo
  | .zero => .one
  | .one => .zero

/-- R168, order 1: the pod records, from the outgoing bank and the bank now active. -/
def State.podsAtSwap (s : State) (old : Bank) : State :=
  { s with pods := tmap s.pods fun i r => swapPod (tget old.pods i) (s.podEntry i) s.now r }

/-- R168, order 3: the outputs, from the zone records as the zone evaluator left them. -/
def State.outputsAtSwap (s : State) (old : Bank) : State :=
  { s with outputs := tmap s.outputs fun o r =>
      swapOutput (tget old.outputs o) (tget s.active.outputs o) s.zones s.now r }

/-- R168, order 4: the sweep scheduler. -/
def State.sweepAtSwap (s : State) : State := s.setSweep (swapSweep s.active.sweepList s.sweep)

/-- R167, R168: the selector flips and each block acts in order. The field port keeps any transaction (R133). -/
def State.flip (s : State) : State :=
  ((({ s with selector := BankNo.other s.selector }.podsAtSwap s.active).zonesAtSwap).outputsAtSwap s.active).sweepAtSwap

end Sys2Proof.Machine
end

