-- ==== Sys2Proof/Machine/FieldLine.lean ====
section
/-! DEFINITION. Chapter 7: the field port, its transactions, replies, misses, held replies and guard. -/

namespace Sys2Proof.Machine

/-! ### Annotation (R100, R125) and held replies (R99, R128) -/

/-- R100: the six characters of the annotation block of a pod. -/
def State.annotation (s : State) (i : PodIx) : List Byte :=
  num1 (zoneNum (s.podEntry i).zone) ++ num1 (s.zoneFacts (s.podEntry i).zone).1 ++
  signedOpt (tget s.pods i).dewPoint ++ signedOpt (s.zoneFacts (s.podEntry i).zone).2

/-- R98, R99: the payload of a held reply before its annotation: the stored payload with HELD set, then the age. -/
def heldPayload (now : Nat) (r : PodRecord) (stored : List Byte) : List Byte :=
  withHeld (charAt stored 0) :: stored.drop 1 ++ num2 (ageOf now r)

/-- R128: the pod for which a held reply is built at a miss, with its stored payload. A FRESH or STALE record always
holds a payload (R20). -/
def State.heldFor (s : State) (t : Txn) : Option (PodIx × List Byte) :=
  match t.origin, t.isSample, podOf t.target.toNat with
  | .trunk, true, some i =>
    if (s.podEntry i).role ≠ .absent ∧ (s.podEntry i).substitute ∧ (tget s.pods i).freshness ≠ .never then
      (tget s.pods i).payload.map fun p => (i, p)
    else none
  | _, _, _ => none

/-- R99, R128: a held reply is built in a slot and the slot joins UP-QUEUE. -/
def State.sendHeld (s : State) (k : SlotNo) (i : PodIx) (stored : List Byte) : State :=
  let base := heldPayload s.now (tget s.pods i) stored
  let up := upChar (BitVec.ofNat 7 (i.val + 1))
  let s1 := s.count .substitutes
  if (s.podEntry i).annotate then
    ((s1.count .annotated).fillSlot k (telegram up 0x23 (base ++ s.annotation i))).joinUp k
  else (s1.fillSlot k (telegram up 0x23 base)).joinUp k

/-! ### Guard (R129) -/

/-- R129: the guard length in character times, by the transaction's outcome. -/
def TxnOutcome.guardChars : TxnOutcome → Nat
  | .miss => 4
  | .abandoned => 4
  | .reply => 2
  | .sent => 2

/-- The character time captured by a transaction (R116). -/
def Txn.charTime (t : Txn) : Nat := BitRate.charTime t.rate

/-- The guard length of a transaction in ticks. -/
def guardTime (t : Txn) : Nat := (t.outcome.elim 4 TxnOutcome.guardChars) * Txn.charTime t

/-- R129: a transaction ends with an outcome and the port enters GUARD. -/
def State.enterGuard (s : State) (t : Txn) (o : TxnOutcome) : State :=
  s.setField (.busy { t with outcome := some o } (.guarding (s.now + guardTime { t with outcome := some o })))

/-- R129: a character that arrives in GUARD restarts the guard timer. -/
def State.restartGuard (s : State) (t : Txn) : State := s.setField (.busy t (.guarding (s.now + guardTime t)))

/-! ### Ends of a transaction -/

/-- R127: the transaction ends as a miss. -/
def State.missTxn (s : State) (t : Txn) (k : SlotNo) : State :=
  let s1 := s.count .fieldMisses
  let s2 :=
    match podOf t.target.toNat with
    | some i => s1.countMiss i
    | none => s1
  let s3 :=
    match s.heldFor t with
    | some (i, stored) => s2.sendHeld k i stored
    | none => s2
  s3.enterGuard t .miss

/-- R122: a reply that is abandoned or completes with a bad check. -/
def State.badReply (s : State) (t : Txn) (k : SlotNo) : State := (s.count .fieldBad).missTxn t k

/-- R123: the pod to whose record a good reply is delivered, if any. -/
def State.deliveredTo (s : State) (t : Txn) (reply : List Byte) : Option PodIx :=
  match t.isSample, podOf t.target.toNat with
  | true, some i => if kindOf reply = 0x21 ∧ (s.podEntry i).role ≠ .absent then some i else none
  | _, _ => none

/-- R125: a reply annotated in its slot. -/
def State.annotateReply (s : State) (k : SlotNo) (i : PodIx) (reply : List Byte) : State :=
  (s.count .annotated).fillSlot k
    (telegram (charAt reply 0) (kindOf reply) (payloadOf reply ++ s.annotation i))

/-- R124: a head-end sample reply, taken by the sample engine and annotated where its pod's flag asks for it. -/
def State.forwardSample (s : State) (k : SlotNo) (i : PodIx) (reply : List Byte) : State :=
  if (s.podEntry i).annotate then
    if 26 < lengthOf reply then (s.count .annotSkipped).takeReply i (payloadOf reply)
    else if takingOf (s.podEntry i) (tget s.pods i) (payloadOf reply) = .refused then s.takeReply i (payloadOf reply)
    else (s.takeReply i (payloadOf reply)).annotateReply k i reply
  else s.takeReply i (payloadOf reply)

/-- R123, TABLE 7-3: a good reply in a slot is disposed of, and the port enters GUARD. The slot leaves FIELD-TXN in this
event, by R110 and R115, and not after the guard, as R109 may be read (log entry 25). -/
def State.goodReply (s : State) (t : Txn) (k : SlotNo) : State :=
  let reply := s.slot k
  let s1 := s.count .fieldReplies
  let s2 :=
    match t.origin, s.deliveredTo t reply with
    | .trunk, some i => (s1.forwardSample k i reply).joinUp k
    | .trunk, none => s1.joinUp k
    | .sweep, some i => s1.takeReply i (payloadOf reply)
    | .sweep, none => s1
  s2.enterGuard t .reply

/-! ### Starting a transaction (R116 to R119) -/

/-- R116: the transaction record of a request. -/
def State.newTxn (s : State) (origin : Origin) (request : List Byte) : Txn :=
  let a := addressOf (charAt request 0)
  { target := a, origin := origin,
    isSample := kindOf request = 0x21 && !isUp (charAt request 0) && (podOf a.toNat).isSome,
    expectsReply := a ≠ 0, rate := s.active.field.rate, window := s.active.field.window, outcome := none }

/-- R118, R119, R120: the port enters SENDING with the request in a slot. -/
def State.startSending (s : State) (origin : Origin) (k : SlotNo) : State :=
  let t := s.newTxn origin (s.slot k)
  s.setField (.busy t (.sending (s.slot k) (s.now + (s.slot k).length * Txn.charTime t) (some k)))

/-- R95: the SAMPLE-ASK of a sweep poll. -/
def sweepPoll (i : PodIx) : List Byte := telegram (downChar (BitVec.ofNat 7 (i.val + 1))) 0x21 []

/-- R117: the field port is IDLE and its line has been quiet for 2 character times at the active rate. -/
def State.fieldReady (s : State) : Bool :=
  s.fieldPort = .idle && s.fieldQuiet + 2 * BitRate.charTime s.active.field.rate ≤ s.now

/-- R119: the pod that the sweep scheduler names as its next poll. -/
def State.nextPoll (s : State) : Option PodIx := s.active.sweepList.getD s.sweep.position none

/-- R119, R152: a sweep transaction starts, if its poll is due and 3 slots are FREE. -/
def State.startSweepTxn (s : State) : State :=
  match s.sweep.due, s.grant, s.nextPoll with
  | true, some k, some i =>
    if 3 ≤ s.freeSlots.length then
      ((s.fillSlot k (sweepPoll i)).startSending .sweep k).setSweep
        (pollStarted s.active.sweepList.length s.active.program.pace s.now s.sweep)
    else s
  | _, _, _ => s

/-- R117: arbitration; DOWN-QUEUE goes before the sweep. -/
def State.startTxn (s : State) : State :=
  if s.fieldReady then
    match s.downQ with
    | k :: rest => { s with downQ := rest }.startSending .trunk k
    | [] => s.startSweepTxn
  else s

/-! ### Sending ends (R120, R134) -/

/-- R120: the last stop bit of a field send. -/
def State.sendingEnd (s : State) : State :=
  match s.fieldPort with
  | .busy t (.sending _ ends slot) =>
    if ends ≤ s.now then
      match slot with
      | some k =>
        if t.expectsReply then
          (s.touchField.setField (.busy t (.awaiting (s.now + ms t.window) k))).count .fieldPolls
        else s.touchField.enterGuard t .sent
      | none => s.touchField.enterGuard t .abandoned
    else s
  | _ => s

/-! ### Characters on the field line (R121, R122, R129, R130) -/

/-- R130, R129: a mark character declined in IDLE or GUARD. -/
def State.unsolicited (s : State) : State := s.count .fieldUnsolicited

/-- R122, R91: a data character stored in the transaction slot. -/
def State.storeReplyChar (s : State) (t : Txn) (k : SlotNo) (c : Byte) : State :=
  let s1 := s.fillSlot k (s.slot k ++ [c])
  match assembly (s.slot k ++ [c]) with
  | .unfinished => s1.setField (.busy t (.receiving (s.now + 3 * Txn.charTime t) k))
  | .overlength => s1.badReply t k
  | .complete => if isGood (s.slot k ++ [c]) then s1.goodReply t k else s1.badReply t k

/-- R121, R122, R129, R130, TABLE 7-4: a mark character, or with `stop` false a framing fault, on the field line. -/
def State.fieldMark (s : State) (c : Byte) (stop : Bool) : State :=
  match s.fieldPort with
  | .idle => if stop then s.touchField.unsolicited else s.touchField
  | .busy _ (.sending _ _ _) => s
  | .busy t (.awaiting _ k) =>
    if stop ∧ c = upChar t.target then
      (s.touchField.fillSlot k [c]).setField (.busy t (.receiving (s.now + 3 * Txn.charTime t) k))
    else s.touchField
  | .busy t (.receiving _ k) =>
    if stop then (s.touchField.badReply t k).unsolicited else s.touchField.badReply t k
  | .busy t (.guarding _) =>
    if stop then (s.touchField.restartGuard t).unsolicited else s.touchField.restartGuard t

/-- R122, R129, R130, TABLE 7-4: a mark-0 character, or with `stop` false a framing fault, on the field line. -/
def State.fieldData (s : State) (c : Byte) (stop : Bool) : State :=
  match s.fieldPort with
  | .idle => s.touchField
  | .busy _ (.sending _ _ _) => s
  | .busy _ (.awaiting _ _) => s.touchField
  | .busy t (.receiving _ k) => if stop then s.touchField.storeReplyChar t k c else s.touchField.badReply t k
  | .busy t (.guarding _) => s.touchField.restartGuard t

/-! ### Timers of the field port -/

/-- R90, R122: the field receiver's gap timer expires. -/
def State.fieldGap (s : State) : State :=
  match s.fieldPort with
  | .busy t (.receiving gap k) => if gap ≤ s.now then s.badReply t k else s
  | _ => s

/-- R121, R127: the reply window expires in AWAITING. -/
def State.windowExpiry (s : State) : State :=
  match s.fieldPort with
  | .busy t (.awaiting w k) => if w ≤ s.now then s.missTxn t k else s
  | _ => s

/-- R129: the guard timer expires; the record is discarded and the port is IDLE. -/
def State.guardExpiry (s : State) : State :=
  match s.fieldPort with
  | .busy _ (.guarding e) => if e ≤ s.now then s.setField .idle else s
  | _ => s

/-! ### Field restart (R134) -/

/-- R134: any transaction in progress is abandoned. -/
def State.abandonTxn (s : State) : State :=
  match s.fieldPort with
  | .idle => s
  | .busy t (.sending copy ends _) => s.setField (.busy { t with outcome := some .abandoned } (.sending copy ends none))
  | .busy t (.awaiting _ _) => s.enterGuard t .abandoned
  | .busy t (.receiving _ _) => s.enterGuard t .abandoned
  | .busy _ (.guarding _) => s

/-! ### The commands -/

/-- FIELD_TRANSACTION_START (R117). -/
def execFieldTransactionStart (dt : Nat) (s : State) : Host.Outcome State Fault Refusal := event dt State.startTxn s

/-- FIELD_SENDING_END (R120). -/
def execFieldSendingEnd (dt : Nat) (s : State) : Host.Outcome State Fault Refusal := event dt State.sendingEnd s

/-- FIELD_MARK_CHARACTER (R121). -/
def execFieldMarkCharacter (dt : Nat) (data : Byte) (stop : Bool) (s : State) : Host.Outcome State Fault Refusal :=
  event dt (fun s => s.fieldMark data stop) s

/-- FIELD_DATA_CHARACTER (R122). -/
def execFieldDataCharacter (dt : Nat) (data : Byte) (stop : Bool) (s : State) : Host.Outcome State Fault Refusal :=
  event dt (fun s => s.fieldData data stop) s

/-- REPLY_WINDOW_EXPIRY (R121). -/
def execReplyWindowExpiry (dt : Nat) (s : State) : Host.Outcome State Fault Refusal := event dt State.windowExpiry s

/-- GUARD_TIMER_EXPIRY (R129). -/
def execGuardTimerExpiry (dt : Nat) (s : State) : Host.Outcome State Fault Refusal := event dt State.guardExpiry s

end Sys2Proof.Machine
end

