-- ==== Sys2Proof/Machine/SettingsStore.lean ====
section
/-! DEFINITION. Chapter 12: the stored image, STORE, and the end of a write. -/

namespace Sys2Proof.Machine

/-- R181: the image is valid when its check characters equal the pair computed over its other characters. A check
character of 255 never does (R91), which is judged first so that nothing is asked of cells whose content is open. -/
def imageValid (m : Image) : Bool :=
  m.checkA ≠ 255 && m.checkB ≠ 255 && checkPair (bankChars m.bank) = (m.checkA.toNat, m.checkB.toNat)

/-- R183: the image that a write which ends DONE leaves. -/
def sealedImage (b : Bank) : Image :=
  { bank := b, checkA := BitVec.ofNat 8 (checkPair (bankChars b)).1,
    checkB := BitVec.ofNat 8 (checkPair (bankChars b)).2 }

/-- R182: a STORE taken in IDLE, DONE or FAILED. What the cells hold from now on is open: log entry 10. -/
def State.beginStore (s : State) : State :=
  { s with snapshot := some s.active,
           image := { bank := Config.imageCells s.freeCount, checkA := 255, checkB := 255 },
           freeCount := s.freeCount + 1, storeTimer := some (s.now + ms 800), storeState := .writing }

/-- R183: the effect of the store timer's expiry, by whether every written cell holds the value written. -/
def State.storeExpiry (s : State) (cellsMatch : Bool) : State :=
  if s.storeState = .writing ∧ isDue s.now s.storeTimer then
    match cellsMatch, s.snapshot with
    | true, some b =>
      { s with image := sealedImage b, storeState := .done, imageBad := false, snapshot := none, storeTimer := none }
    | _, _ => { s with storeState := .failed, snapshot := none, storeTimer := none }
  else s

/-- R184: a full reset stops a write where it stands; the store state is IDLE after every full reset. -/
def State.stopStore (s : State) : State := { s with storeState := .idle, snapshot := none, storeTimer := none }

/-- STORE_TIMER_EXPIRY (R183). -/
def execStoreTimerExpiry (dt : Nat) (cellsMatch : Bool) (s : State) : Host.Outcome State Fault Refusal :=
  event dt (fun s => s.storeExpiry cellsMatch) s

end Sys2Proof.Machine
end

