-- ==== Sys2Proof/Machine/Management.lean ====
section
/-! DEFINITION. Chapter 11: the management agent. Each request gives the state it leaves and the payload of its
response, whose first character is the status (R101). -/

namespace Sys2Proof.Machine

/-- What a request leaves: the state, and the response's payload. -/
abbrev Answer := State × List Byte

/-- A response that is a status alone. -/
def State.answer (s : State) (st : Status) : Answer := (s, [Status.char st])

/-- A response OK with a body. -/
def State.report (s : State) (body : List Byte) : Answer := (s, Status.char .ok :: body)

/-! ### Reading requests (R172 to R174) -/

/-- R172: IDENTIFY. -/
def State.askIdentify (s : State) : Answer :=
  s.report (num2 3208 ++ num2 2 ++ num1 s.ownAddr.toNat ++ num1 s.trate.toNat ++ num1 (BankNo.code s.selector))

/-- TABLE 5-11: the sixteen zone states, two to a character. -/
def packedZones (zones : Vector ZoneRecord 16) : List Byte :=
  (List.finRange 8).flatMap fun n =>
    num1 (ZoneState.code (tget zones ⟨2 * n.val, by omega⟩).state +
      16 * ZoneState.code (tget zones ⟨2 * n.val + 1, by omega⟩).state)

/-- R173: the READ-STATUS body. -/
def State.statusBody (s : State) : List Byte :=
  num1 (BankNo.code s.selector) ++ num1 (StoreState.code s.storeState) ++ num1 (flagNum s.imageBad) ++
  num1 (SweepState.code s.sweep.state) ++ num1 (sweepFlags s.sweep) ++ num1 s.sweep.rounds ++
  num1 s.sweep.position ++ num1 (FieldPort.code s.fieldPort) ++ num1 s.freeSlots.length ++ packedZones s.zones ++
  num2 s.changeSet.toNat

/-- R173, R59: READ-STATUS, which empties the change set after its body is formed. -/
def State.askStatus (s : State) : Answer := ({ s with changeSet := 0 } : State).report s.statusBody

/-- R61: the READ-ZONE body. -/
def State.zoneReport (s : State) (z : ZoneIx) : List Byte :=
  let r := tget s.zones z
  num1 (z.val + 1) ++ num1 (ZoneState.code r.state) ++ signedOpt (r.values.map (·.dew)) ++
  signedOpt (r.values.map (·.surface)) ++ signedOpt r.margin ++ num1 (podNum (r.values.map (·.worstDew))) ++
  num1 (podNum (r.values.map (·.coldestSurf))) ++ num1 r.airCount ++ num1 r.surfCount ++ num1 (targetCode r.target) ++
  num1 (ZoneTimer.code r.timer) ++ num2 (r.timer.expiry.elim 0 (secondsLeft s.now)) ++
  num2 (wholeUnits (sec 1) (s.now - r.lastChange))

/-- R174: READ-ZONE. -/
def State.askZone (s : State) (p : List Byte) : Answer :=
  match zoneOf (charAt p 0).toNat with
  | some z => s.report (s.zoneReport z)
  | none => s.answer .badField

/-- R33: the READ-POD body, with absent fields by TABLE 2-6. -/
def State.podReport (s : State) (i : PodIx) : List Byte :=
  let r := tget s.pods i
  num1 (i.val + 1) ++ num1 (Role.code (s.podEntry i).role) ++ num1 (Freshness.code r.freshness) ++ num1 (podFlags r) ++
  [r.lastSeq.getD 0] ++ signedOpt r.airTemp ++ num2Opt (r.rh.map Int.toNat) ++ signedOpt r.surfTemp ++
  signedOpt r.dewPoint ++ num2Opt r.interval ++ num1 r.missCount ++ num2 r.sampleCount ++ num2 (ageOf s.now r)

/-- R33, R174: READ-POD. -/
def State.askPod (s : State) (p : List Byte) : Answer :=
  match podOf (charAt p 0).toNat with
  | some i => s.report (s.podReport i)
  | none => s.answer .badField

/-- R174, TABLE 5-11: one entry of a bank by table and index; none where the table or the index is out of range. -/
def entryReport (b : Bank) (table index : Nat) : Option (List Byte) :=
  match table with
  | 0 => (podOf index).map fun i => podBody (tget b.pods i)
  | 1 => (zoneOf index).map fun z => zoneBody (tget b.zones z)
  | 2 => (outputOf index).map fun o => outputBody (tget b.outputs o)
  | 3 =>
    if 63 < index then none
    else some (num1 b.sweepList.length ++
      (List.range 28).flatMap fun j => num1 (listAddress b.sweepList (index + j)))
  | 4 => some (fieldBody b.field b.program)
  | _ => none

/-- R174: the bank a READ-ENTRY selects. -/
def State.selectedBank (s : State) (code : Nat) : Option Bank :=
  match code with
  | 0 => some s.active
  | 1 => some s.shadow
  | _ => none

/-- R174: READ-ENTRY. -/
def State.askEntry (s : State) (p : List Byte) : Answer :=
  match s.selectedBank (charAt p 0).toNat with
  | some b =>
    match entryReport b (charAt p 1).toNat (charAt p 2).toNat with
    | some body => s.report body
    | none => s.answer .badField
  | none => s.answer .badField

/-! ### Configuration requests (R161 to R168, R175) -/

/-- R161: OK, or CLAMPED where the clamp acted on any field. -/
def writeStatus (clamped : Bool) : Status := if clamped then .clamped else .ok

/-- R161: WRITE-POD-ENTRY. -/
def State.writePod (s : State) (p : List Byte) : Answer :=
  match podOf (charAt p 0).toNat, readPodBody p 1 with
  | some i, some (e, c) => (s.setShadow { s.shadow with pods := tset s.shadow.pods i e }).answer (writeStatus c)
  | _, _ => s.answer .badField

/-- R161: WRITE-ZONE-ENTRY. -/
def State.writeZone (s : State) (p : List Byte) : Answer :=
  match zoneOf (charAt p 0).toNat, readZoneBody p 1 with
  | some z, some (e, c) => (s.setShadow { s.shadow with zones := tset s.shadow.zones z e }).answer (writeStatus c)
  | _, _ => s.answer .badField

/-- R161: WRITE-OUTPUT-ENTRY. -/
def State.writeOutput (s : State) (p : List Byte) : Answer :=
  match outputOf (charAt p 0).toNat, readOutputBody p 1 with
  | some o, some (e, c) => (s.setShadow { s.shadow with outputs := tset s.shadow.outputs o e }).answer (writeStatus c)
  | _, _ => s.answer .badField

/-- R163: WRITE-SWEEP-LIST. -/
def State.writeList (s : State) (p : List Byte) : Answer :=
  let start := (charAt p 0).toNat
  let len := (charAt p 1).toNat
  let addrs := (p.drop 2).map fun c => podOf c.toNat
  if listWriteRefused start len addrs then s.answer .badField
  else (s.setShadow { s.shadow with sweepList := writtenList s.shadow.sweepList start len addrs }).answer .ok

/-- R162: WRITE-FIELD-SETTINGS. -/
def State.writeField (s : State) (p : List Byte) : Answer :=
  match readFieldBody p with
  | some ((f, g), c) => (s.setShadow { s.shadow with field := f, program := g }).answer (writeStatus c)
  | none => s.answer .badField

/-- R164: COPY-ACTIVE. -/
def State.copyBank (s : State) : Answer := (s.setShadow s.active).answer .ok

/-- R165 to R168: SWAP. -/
def State.swapBanks (s : State) : Answer :=
  match validate s.shadow with
  | some (reason, index) => (s, Status.char .invalid :: num1 (SwapReason.code reason) ++ num1 index)
  | none => s.flip.report (num1 (BankNo.code s.flip.selector))

/-! ### SWEEP-CONTROL and OUTPUT-CONTROL (R176) -/

/-- R176: a taken SWEEP-CONTROL reports the sweep state it left. -/
def State.sweepReport (s : State) : Answer := s.report (num1 (SweepState.code s.sweep.state))

/-- R149, R150, R176: SWEEP-CONTROL. -/
def State.controlSweep (s : State) (p : List Byte) : Answer :=
  match (charAt p 0).toNat with
  | 0 => (s.sweepStart.map State.sweepReport).getD (s.answer .badField)
  | 1 => (s.setSweep (stopSweep s.sweep)).sweepReport
  | 2 => (s.sweepResume.map State.sweepReport).getD (s.answer .badField)
  | _ => s.answer .badField

/-- R82: the output record as the command left it. -/
def State.outputReport (s : State) (o : OutIx) : Answer :=
  let r := tget s.outputs o
  s.report (num1 (o.val + 1) ++ num1 (OutputState.code r.state) ++ num1 (flagNum r.pin) ++ num1 r.demand ++
    num1 r.latched ++ num1 (flagNum r.isPartial) ++ num2 (r.periodTimer.elim 0 (msLeft s.now)))

/-- R79: INHIBIT. -/
def State.inhibit (s : State) (o : OutIx) : Answer :=
  if (tget s.active.outputs o).mode = .off then s.answer .badField
  else (s.setOutput o (inhibitRecord (tget s.outputs o))).outputReport o

/-- R80: RELEASE. -/
def State.release (s : State) (o : OutIx) : Answer :=
  (s.setOutput o (releaseRecord (tget s.active.outputs o) s.zones s.now (tget s.outputs o))).outputReport o

/-- R176, R82: OUTPUT-CONTROL. -/
def State.controlOutput (s : State) (p : List Byte) : Answer :=
  match outputOf (charAt p 0).toNat, (charAt p 1).toNat with
  | some o, 0 => s.inhibit o
  | some o, 1 => s.release o
  | _, _ => s.answer .badField

/-! ### STORE, READ-COUNTERS, FIELD-RESTART -/

/-- R177, R182: STORE. -/
def State.storeRequest (s : State) : Answer :=
  if s.storeState = .writing then s.answer .busy else s.beginStore.answer .ok

/-- R178: the fifteen counters in the order of TABLE 5-11. -/
def State.counterBody (s : State) : List Byte := s.counters.toList.flatMap num2

/-- R178: READ-COUNTERS; a clearing one zeroes the counters after the snapshot. -/
def State.askCounters (s : State) (p : List Byte) : Answer :=
  match (charAt p 0).toNat with
  | 0 => s.report s.counterBody
  | 1 => ({ s with counters := tconst 15 0 } : State).report s.counterBody
  | _ => s.answer .badField

/-- R179, TABLE 11-2: FIELD-RESTART, block by block. The period and on-time timers of the outputs run on, by R85 and R179;
R180 names an output timer among those that a restart taken first cancels or stops (log entry 26). -/
def State.restartField (s : State) : State :=
  let t := s.abandonTxn.podsAtRestart.zonesAtRestart.redriveAll
  t.setSweep (restartSweep t.sweep)

/-! ### Taking a request (R171) -/

/-- TABLE 5-10: the payload lengths a management kind allows. -/
def lengthAllowed (kind : Byte) (n : Nat) : Bool :=
  match kind.toNat with
  | 0x52 => n = 1
  | 0x53 => n = 1
  | 0x54 => n = 3
  | 0x55 => n = 19
  | 0x56 => n = 14
  | 0x57 => n = 11
  | 0x58 => 2 ≤ n && n ≤ 30
  | 0x59 => n = 9
  | 0x5C => n = 1
  | 0x5D => n = 2
  | 0x5F => n = 1
  | _ => n = 0

/-- R96: the management kinds are 0x50..0x60. -/
def isRequestKind (kind : Byte) : Bool := 0x50 ≤ kind.toNat && kind.toNat ≤ 0x60

/-- R171, step 3: a request of a management kind whose length is right. -/
def State.carryOut (s : State) (kind : Byte) (p : List Byte) : Answer :=
  match kind.toNat with
  | 0x50 => s.askIdentify
  | 0x51 => s.askStatus
  | 0x52 => s.askZone p
  | 0x53 => s.askPod p
  | 0x54 => s.askEntry p
  | 0x55 => s.writePod p
  | 0x56 => s.writeZone p
  | 0x57 => s.writeOutput p
  | 0x58 => s.writeList p
  | 0x59 => s.writeField p
  | 0x5A => s.copyBank
  | 0x5B => s.swapBanks
  | 0x5C => s.controlSweep p
  | 0x5D => s.controlOutput p
  | 0x5E => s.storeRequest
  | 0x5F => s.askCounters p
  | 0x60 => s.restartField.answer .ok
  | _ => s.answer .badKind

/-- R171: the management agent takes a request. -/
def State.takeRequest (s : State) (kind : Byte) (p : List Byte) : Answer :=
  if !isRequestKind kind then s.answer .badKind
  else if !lengthAllowed kind p.length then s.answer .badLength
  else s.carryOut kind p

end Sys2Proof.Machine
end

