-- ==== Sys2Proof/Machine/TrunkLine.lean ====
section
/-! DEFINITION. Chapter 8: the trunk port, reception, routing and upward transmission. -/

namespace Sys2Proof.Machine

/-! ### Reception (R139 to R141) -/

/-- R139: the port judges a mark character that its receiver, WAITING, offers. -/
def State.offerTrunk (s : State) (c : Byte) : State :=
  if isUp c ∨ addressOf c = 127 then s.count .trunkDiscarded
  else
    match s.grant with
    | none => s.count .trunkNoSlot
    | some k => (s.fillSlot k [c]).setTrunk (.receiving k (s.now + 3 * s.trunkChar))

/-- R140: the telegram being assembled is abandoned; its slot is FREE and the port LISTENING. -/
def State.abandonTrunk (s : State) : State := (s.count .trunkFraming).setTrunk .listening

/-- R107, R141, R101: a good request to the own address is answered in its slot, which joins UP-QUEUE. -/
def State.answerRequest (s : State) (k : SlotNo) (kind : Byte) (p : List Byte) : State :=
  let a := s.takeRequest kind p
  ((a.1.fillSlot k (telegram (upChar s.ownAddr) kind a.2)).setTrunk .listening).joinUp k

/-- R141, TABLE 8-2: a complete telegram in the TRUNK-RX slot. -/
def State.completeTrunk (s : State) (k : SlotNo) : State :=
  let t := s.slot k
  if isGood t then
    if addressOf (charAt t 0) = s.ownAddr then (s.count .trunkGood).answerRequest k (kindOf t) (payloadOf t)
    else ((s.count .trunkGood).setTrunk .listening).joinDown k
  else (s.count .trunkCheck).setTrunk .listening

/-- R88, R139, R140: a mark character, or with `stop` false a framing fault, on the trunk. -/
def State.trunkMark (s : State) (c : Byte) (stop : Bool) : State :=
  match s.trunkPort with
  | .listening => if stop then s.touchTrunk.offerTrunk c else s.touchTrunk
  | .receiving _ _ => if stop then s.touchTrunk.abandonTrunk.offerTrunk c else s.touchTrunk.abandonTrunk
  | .transmitting _ _ => s

/-- R88, R89, R91: a data character stored in the TRUNK-RX slot. -/
def State.storeTrunkChar (s : State) (k : SlotNo) (c : Byte) : State :=
  let s1 := s.fillSlot k (s.slot k ++ [c])
  match assembly (s.slot k ++ [c]) with
  | .unfinished => s1.setTrunk (.receiving k (s.now + 3 * s.trunkChar))
  | .overlength => s1.abandonTrunk
  | .complete => s1.completeTrunk k

/-- R88: a mark-0 character, or with `stop` false a framing fault, on the trunk. -/
def State.trunkData (s : State) (c : Byte) (stop : Bool) : State :=
  match s.trunkPort with
  | .listening => s.touchTrunk
  | .receiving k _ => if stop then s.touchTrunk.storeTrunkChar k c else s.touchTrunk.abandonTrunk
  | .transmitting _ _ => s

/-- R90, R140: the trunk receiver's gap timer expires. -/
def State.trunkGap (s : State) : State :=
  match s.trunkPort with
  | .receiving _ gap => if gap ≤ s.now then s.abandonTrunk else s
  | _ => s

/-! ### Upward transmission (R142, R143) -/

/-- R142: the trunk has been quiet for 2 character times. -/
def State.trunkIsQuiet (s : State) : Bool := s.trunkQuiet + 2 * s.trunkChar ≤ s.now

/-- R142: a transmission starts where its three conditions hold. -/
def State.startTransmission (s : State) : State :=
  match s.trunkPort, s.upQ with
  | .listening, k :: rest =>
    if s.trunkIsQuiet then
      { s with upQ := rest, trunkPort := .transmitting k (s.now + (s.slot k).length * s.trunkChar) }
    else s
  | _, _ => s

/-- R143: the last stop bit of a transmission. -/
def State.endTransmission (s : State) : State :=
  match s.trunkPort with
  | .transmitting _ ends => if ends ≤ s.now then s.touchTrunk.setTrunk .listening else s
  | _ => s

/-! ### A whole request on the trunk -/

/-- A good telegram to the own address with a kind and a payload arrives on the trunk whole, its last character ending
now: its mark character is judged by R139 (after an interrupted telegram is abandoned, R140), and its completion by
R141. A payload of more than 32 characters is abandoned at its length character (R89). Log entry 13. -/
def State.requestArrives (s : State) (kind : Byte) (p : List Byte) : State :=
  let s1 := s.trunkMark (downChar s.ownAddr) true
  match s1.trunkPort with
  | .receiving k _ =>
    if 32 < p.length then (s1.fillSlot k ((telegram (downChar s.ownAddr) kind p).take 3)).abandonTrunk
    else (s1.fillSlot k (telegram (downChar s.ownAddr) kind p)).completeTrunk k
  | _ => s1

/-! ### The commands -/

/-- TRUNK_MARK_CHARACTER (R139). -/
def execTrunkMarkCharacter (dt : Nat) (data : Byte) (stop : Bool) (s : State) : Host.Outcome State Fault Refusal :=
  event dt (fun s => s.trunkMark data stop) s

/-- TRUNK_DATA_CHARACTER (R88). -/
def execTrunkDataCharacter (dt : Nat) (data : Byte) (stop : Bool) (s : State) : Host.Outcome State Fault Refusal :=
  event dt (fun s => s.trunkData data stop) s

/-- GAP_TIMER_EXPIRY (R90) of either line's receiver. -/
def execGapTimerExpiry (dt : Nat) (line : Line) (s : State) : Host.Outcome State Fault Refusal :=
  event dt (fun s => match line with | .trunk => s.trunkGap | .field => s.fieldGap) s

/-- TRUNK_TRANSMISSION_START (R142). -/
def execTrunkTransmissionStart (dt : Nat) (s : State) : Host.Outcome State Fault Refusal :=
  event dt State.startTransmission s

/-- TRUNK_TRANSMISSION_END (R143). -/
def execTrunkTransmissionEnd (dt : Nat) (s : State) : Host.Outcome State Fault Refusal :=
  event dt State.endTransmission s

end Sys2Proof.Machine
end

