-- ==== Sys2Proof/Machine/Requests.lean ====
section
/-! DEFINITION. The meanings of the management requests: each is the arrival of its telegram on the trunk. -/

namespace Sys2Proof.Machine

/-- IDENTIFY (R172). -/
def execIdentify (dt : Nat) (payload : List Byte) (s : State) : Host.Outcome State Fault Refusal :=
  event dt (fun s => s.requestArrives 0x50 payload) s

/-- READ_STATUS (R173). -/
def execReadStatus (dt : Nat) (payload : List Byte) (s : State) : Host.Outcome State Fault Refusal :=
  event dt (fun s => s.requestArrives 0x51 payload) s

/-- READ_ZONE (R174). -/
def execReadZone (dt : Nat) (payload : List Byte) (s : State) : Host.Outcome State Fault Refusal :=
  event dt (fun s => s.requestArrives 0x52 payload) s

/-- READ_POD (R33). -/
def execReadPod (dt : Nat) (payload : List Byte) (s : State) : Host.Outcome State Fault Refusal :=
  event dt (fun s => s.requestArrives 0x53 payload) s

/-- READ_ENTRY (R174). -/
def execReadEntry (dt : Nat) (payload : List Byte) (s : State) : Host.Outcome State Fault Refusal :=
  event dt (fun s => s.requestArrives 0x54 payload) s

/-- WRITE_POD_ENTRY (R161). -/
def execWritePodEntry (dt : Nat) (payload : List Byte) (s : State) : Host.Outcome State Fault Refusal :=
  event dt (fun s => s.requestArrives 0x55 payload) s

/-- WRITE_ZONE_ENTRY (R161). -/
def execWriteZoneEntry (dt : Nat) (payload : List Byte) (s : State) : Host.Outcome State Fault Refusal :=
  event dt (fun s => s.requestArrives 0x56 payload) s

/-- WRITE_OUTPUT_ENTRY (R161). -/
def execWriteOutputEntry (dt : Nat) (payload : List Byte) (s : State) : Host.Outcome State Fault Refusal :=
  event dt (fun s => s.requestArrives 0x57 payload) s

/-- WRITE_SWEEP_LIST (R163). -/
def execWriteSweepList (dt : Nat) (payload : List Byte) (s : State) : Host.Outcome State Fault Refusal :=
  event dt (fun s => s.requestArrives 0x58 payload) s

/-- WRITE_FIELD_SETTINGS (R162). -/
def execWriteFieldSettings (dt : Nat) (payload : List Byte) (s : State) : Host.Outcome State Fault Refusal :=
  event dt (fun s => s.requestArrives 0x59 payload) s

/-- COPY_ACTIVE (R164). -/
def execCopyActive (dt : Nat) (payload : List Byte) (s : State) : Host.Outcome State Fault Refusal :=
  event dt (fun s => s.requestArrives 0x5A payload) s

/-- SWAP (R167). -/
def execSwap (dt : Nat) (payload : List Byte) (s : State) : Host.Outcome State Fault Refusal :=
  event dt (fun s => s.requestArrives 0x5B payload) s

/-- STORE (R182). -/
def execStore (dt : Nat) (payload : List Byte) (s : State) : Host.Outcome State Fault Refusal :=
  event dt (fun s => s.requestArrives 0x5E payload) s

/-- READ_COUNTERS (R178). -/
def execReadCounters (dt : Nat) (payload : List Byte) (s : State) : Host.Outcome State Fault Refusal :=
  event dt (fun s => s.requestArrives 0x5F payload) s

/-- FIELD_RESTART (R179). -/
def execFieldRestart (dt : Nat) (payload : List Byte) (s : State) : Host.Outcome State Fault Refusal :=
  event dt (fun s => s.requestArrives 0x60 payload) s

/-- SWEEP_CONTROL_START (R149): SWEEP-CONTROL with command 0. -/
def execSweepControlStart (dt : Nat) (s : State) : Host.Outcome State Fault Refusal :=
  event dt (fun s => s.requestArrives 0x5C [0]) s

/-- SWEEP_CONTROL_STOP (R150): SWEEP-CONTROL with command 1. -/
def execSweepControlStop (dt : Nat) (s : State) : Host.Outcome State Fault Refusal :=
  event dt (fun s => s.requestArrives 0x5C [1]) s

/-- SWEEP_CONTROL_RESUME (R150): SWEEP-CONTROL with command 2. -/
def execSweepControlResume (dt : Nat) (s : State) : Host.Outcome State Fault Refusal :=
  event dt (fun s => s.requestArrives 0x5C [2]) s

/-- OUTPUT_CONTROL_INHIBIT (R79): OUTPUT-CONTROL with command 0. -/
def execOutputControlInhibit (dt : Nat) (output : Byte) (s : State) : Host.Outcome State Fault Refusal :=
  event dt (fun s => s.requestArrives 0x5D [output, 0]) s

/-- OUTPUT_CONTROL_RELEASE (R80): OUTPUT-CONTROL with command 1. -/
def execOutputControlRelease (dt : Nat) (output : Byte) (s : State) : Host.Outcome State Fault Refusal :=
  event dt (fun s => s.requestArrives 0x5D [output, 1]) s

/-- BAD_KIND (R171): a request to the own address of a kind outside 0x50..0x60. -/
def execBadKind (dt : Nat) (kind : Byte) (payload : List Byte) (s : State) : Host.Outcome State Fault Refusal :=
  event dt (fun s => s.requestArrives kind payload) s

end Sys2Proof.Machine
end

