-- ==== Sys2Proof/Machine/StartUp.lean ====
section
/-! DEFINITION. Full reset and start-up (R184 to R186, TABLE 12-2). -/

namespace Sys2Proof.Machine

/-- R184, R185, R114, R138: the part goes into reset. The outputs are off, ALERT-N is released, both ports are idle with
their drivers released, no slot is held, and a write under way is stopped. The other records wait for start-up (log
entry 7). -/
def State.enterReset (s : State) : State :=
  { s.stopStore with
      held := true, trunkPort := .listening, fieldPort := .idle, downQ := [], upQ := [], alert := false,
      outputs := tmap s.outputs fun _ r => { r with pin := false } }

/-- R170, R186 step 3: the bank that start-up makes active: the loaded image, or the factory defaults. -/
def State.startBank (s : State) : Bank := if imageValid s.image then s.image.bank else factoryBank

/-- R186, TABLE 12-2: the part sets itself up at the end of reset, with the levels of the strap pins. The image, the
characters in the slots and the queue of commands are what they were. -/
def State.setUp (s : State) (trate : BitVec 2) (addr : BitVec 6) : State :=
  let b := s.startBank
  State.automaticStart
    { s with
        now := 0, held := false, trate := trate, addrStrap := addr, trunkPort := .listening, trunkQuiet := 0,
        downQ := [], upQ := [], fieldPort := .idle, fieldQuiet := 0, pods := tconst 63 neverPod,
        zones := tmap s.zones fun z _ => resetZone (tget b.zones z).enabled, changeSet := 0, alert := false,
        outputs := tmap s.outputs fun o _ => startOutput (tget b.outputs o), sweep := idleSweep, bank0 := b, bank1 := b,
        selector := .zero, storeState := .idle, imageBad := !imageValid s.image, snapshot := none, storeTimer := none,
        counters := tconst 15 0 }

/-- FULL_RESET (R185). -/
def execFullReset (dt : Nat) (s : State) : Host.Outcome State Fault Refusal := .next (s.elapse dt).enterReset

/-- START_UP (R186). It ends a reset; where none has begun it stands for a reset taken whole (log entry 6). -/
def execStartUp (trate : BitVec 2) (addr : BitVec 6) (s : State) : Host.Outcome State Fault Refusal :=
  .next (s.enterReset.setUp trate addr)

end Sys2Proof.Machine
end

