-- ==== Sys2Proof/Machine/Dispatch.lean ====
section
/-! DEFINITION. One arm per command: the call of its meaning. -/

namespace Sys2Proof.Machine

/-- A command's effect on everything but the queue. -/
def exec (i : Instr) (s : State) : Host.Outcome State Fault Refusal :=
  match i with
  | .fullReset dt => Sys2Proof.Machine.execFullReset dt s
  | .startUp trate addr => Sys2Proof.Machine.execStartUp trate addr s
  | .trunkMarkCharacter dt data stop => Sys2Proof.Machine.execTrunkMarkCharacter dt data stop s
  | .trunkDataCharacter dt data stop => Sys2Proof.Machine.execTrunkDataCharacter dt data stop s
  | .gapTimerExpiry dt line => Sys2Proof.Machine.execGapTimerExpiry dt line s
  | .trunkTransmissionStart dt => Sys2Proof.Machine.execTrunkTransmissionStart dt s
  | .trunkTransmissionEnd dt => Sys2Proof.Machine.execTrunkTransmissionEnd dt s
  | .fieldTransactionStart dt => Sys2Proof.Machine.execFieldTransactionStart dt s
  | .fieldSendingEnd dt => Sys2Proof.Machine.execFieldSendingEnd dt s
  | .fieldMarkCharacter dt data stop => Sys2Proof.Machine.execFieldMarkCharacter dt data stop s
  | .fieldDataCharacter dt data stop => Sys2Proof.Machine.execFieldDataCharacter dt data stop s
  | .replyWindowExpiry dt => Sys2Proof.Machine.execReplyWindowExpiry dt s
  | .guardTimerExpiry dt => Sys2Proof.Machine.execGuardTimerExpiry dt s
  | .staleDeadlineExpiry dt pod => Sys2Proof.Machine.execStaleDeadlineExpiry dt pod s
  | .zoneTimerExpiry dt zone => Sys2Proof.Machine.execZoneTimerExpiry dt zone s
  | .onTimeTimerExpiry dt output => Sys2Proof.Machine.execOnTimeTimerExpiry dt output s
  | .periodTimerExpiry dt output => Sys2Proof.Machine.execPeriodTimerExpiry dt output s
  | .identify dt payload => Sys2Proof.Machine.execIdentify dt payload s
  | .readStatus dt payload => Sys2Proof.Machine.execReadStatus dt payload s
  | .readZone dt payload => Sys2Proof.Machine.execReadZone dt payload s
  | .readPod dt payload => Sys2Proof.Machine.execReadPod dt payload s
  | .readEntry dt payload => Sys2Proof.Machine.execReadEntry dt payload s
  | .writePodEntry dt payload => Sys2Proof.Machine.execWritePodEntry dt payload s
  | .writeZoneEntry dt payload => Sys2Proof.Machine.execWriteZoneEntry dt payload s
  | .writeOutputEntry dt payload => Sys2Proof.Machine.execWriteOutputEntry dt payload s
  | .writeSweepList dt payload => Sys2Proof.Machine.execWriteSweepList dt payload s
  | .writeFieldSettings dt payload => Sys2Proof.Machine.execWriteFieldSettings dt payload s
  | .copyActive dt payload => Sys2Proof.Machine.execCopyActive dt payload s
  | .swap dt payload => Sys2Proof.Machine.execSwap dt payload s
  | .sweepControlStart dt => Sys2Proof.Machine.execSweepControlStart dt s
  | .sweepControlStop dt => Sys2Proof.Machine.execSweepControlStop dt s
  | .sweepControlResume dt => Sys2Proof.Machine.execSweepControlResume dt s
  | .delayTimerExpiry dt => Sys2Proof.Machine.execDelayTimerExpiry dt s
  | .paceTimerExpiry dt => Sys2Proof.Machine.execPaceTimerExpiry dt s
  | .outputControlInhibit dt output => Sys2Proof.Machine.execOutputControlInhibit dt output s
  | .outputControlRelease dt output => Sys2Proof.Machine.execOutputControlRelease dt output s
  | .store dt payload => Sys2Proof.Machine.execStore dt payload s
  | .storeTimerExpiry dt cellsMatch => Sys2Proof.Machine.execStoreTimerExpiry dt cellsMatch s
  | .readCounters dt payload => Sys2Proof.Machine.execReadCounters dt payload s
  | .fieldRestart dt payload => Sys2Proof.Machine.execFieldRestart dt payload s
  | .badKind dt kind payload => Sys2Proof.Machine.execBadKind dt kind payload s

end Sys2Proof.Machine
end

