-- ==== Sys2Proof/Safety.lean ====
section
/-! DEFINITION. What counts as a safe run: the laws that the spec says the part's records keep together, and when a
history is on time. Every law is a decidable proposition. -/

namespace Sys2Proof.Machine

/-- A value, where present, lies within a range. -/
abbrev within (lo hi : Int) (x : Option Int) : Prop := ∀ v ∈ x, lo ≤ v ∧ v ≤ hi

/-! ### Pod records (R7, R12, R20, R28) -/

/-- R20: what a NEVER record holds. -/
def neverLaw (r : PodRecord) : Bool := decide (r.lastSeq = none ∧ r.payload = none ∧ r.airTemp = none ∧ r.rh = none ∧ r.surfTemp = none ∧ r.dewPoint = none ∧
  r.lastReply = none ∧ r.interval = none ∧ r.clamped = false ∧ r.dry = false ∧ r.below = false ∧ r.late = false)

/-- R20: what a FRESH or STALE record holds, by its role. -/
def knownLaw (role : Role) (r : PodRecord) : Bool := decide (r.lastSeq.isSome ∧ r.lastReply.isSome ∧ r.payload.map List.length = sampleLength role ∧
  r.airTemp.isSome = Role.isAir role ∧ r.rh.isSome = Role.isAir role ∧ r.dewPoint.isSome = Role.isAir role ∧
  r.surfTemp.isSome = Role.isSurface role)

/-- R7, R12: the ranges of a record's values, and the dew point against the air temperature. -/
def podRanges (r : PodRecord) : Bool := decide (within (-1000) 5000 r.airTemp ∧ within 0 10000 r.rh ∧ within (-1000) 5000 r.surfTemp ∧
  within (-1000) 5000 r.dewPoint ∧ ∀ d ∈ r.dewPoint, ∀ t ∈ r.airTemp, d ≤ t)

/-- A pod record stands by its active entry: R19 (an ABSENT pod stays NEVER), R20, R28 (the deadline), R98 (a stored
payload carries no fault), and the saturation of its counts. -/
def podLaw (e : PodEntry) (r : PodRecord) : Bool := decide ((e.role = .absent → r.freshness = .never) ∧
  (if r.freshness = .never then neverLaw r else knownLaw e.role r) ∧
  r.deadline = (if r.freshness = .fresh then r.lastReply.map (· + sec e.staleLimit) else none) ∧
  podRanges r ∧
  (∀ p ∈ r.payload, hasSensorFault (charAt p 0) = false) ∧
  r.missCount ≤ 255 ∧ r.sampleCount ≤ 65535 ∧ ∀ n ∈ r.interval, n ≤ 65535)

/-- Every pod record stands by its active entry. -/
abbrev State.podsLawful (s : State) : Prop := ∀ i, podLaw (s.podEntry i) (tget s.pods i)

/-! ### Zone records (R43, R44, R60) -/

/-- R43: the zone values of a zone at a risk state. -/
def valuesLaw (v : ZoneValues) : Bool := decide (v.margin = v.surface - v.dew ∧ -1000 ≤ v.dew ∧ v.dew ≤ 5000 ∧ -1000 ≤ v.surface ∧ v.surface ≤ 5000)

/-- R43: a timer runs only in a risk state and with a target that is worse (escalation) or better (release). -/
def timerLaw (r : ZoneRecord) : Bool :=
  match r.timer, r.state, r.target with
  | .none, _, t => t = none
  | .escalation _, .risk c, some t => RiskClass.severity c < RiskClass.severity t
  | .release _, .risk c, some t => RiskClass.severity t < RiskClass.severity c
  | _, _, _ => false

/-- R43, R44: a zone record stands by its active entry. -/
abbrev zoneLaw (e : ZoneEntry) (r : ZoneRecord) : Prop :=
  (r.state = .unused ↔ e.enabled = false) ∧ r.values.isSome = r.isSeen ∧ (∀ v ∈ r.values, valuesLaw v) ∧ timerLaw r

/-- Every zone record stands by its active entry. -/
abbrev State.zonesLawful (s : State) : Prop := ∀ z, zoneLaw (tget s.active.zones z) (tget s.zones z)

/-- R60: the alert line is asserted exactly when a zone is at ALARM; in reset it is released (R185). -/
abbrev State.alertLawful (s : State) : Prop := s.alert = (!s.held && anyAlarm s.zones)

/-! ### Output records (R68 to R78) -/

/-- R70 to R72, R75: a RUNNING output follows its mapped zones. -/
def runningLaw (e : OutputEntry) (zones : Vector ZoneRecord 16) (r : OutputRecord) : Bool := decide (anySeen e zones = true ∧ r.isPartial = anyBlind e zones ∧
  (e.mode = .level → r.pin = levelPin e zones) ∧
  (e.mode = .proportional → r.pin = r.cycleLevel ∧ r.demand = demandOf e zones r.demand))

/-- R76: an output in FAILSAFE sees no mapped zone, and its pin follows the fail action. -/
def failsafeLaw (e : OutputEntry) (zones : Vector ZoneRecord 16) (r : OutputRecord) : Bool := decide (anySeen e zones = false ∧ r.isPartial = false ∧ (e.failAction = .off → r.pin = false) ∧
  (e.failAction = .on → r.pin = true) ∧
  (e.failAction = .hold → e.mode = .proportional → r.pin = r.cycleLevel))

/-- R68: how the fields of an output record stand together, by state and mode. -/
def outputLaw (e : OutputEntry) (zones : Vector ZoneRecord 16) (r : OutputRecord) : Bool := decide ((r.state = .idle ↔ e.mode = .off) ∧
  (r.state = .idle → r = idleOutput) ∧
  (r.state = .inhibited → r.pin = false ∧ r.periodTimer = none ∧ r.onTimer = none) ∧
  (r.state ≠ .inhibited → e.mode = .level →
    r.demand = 0 ∧ r.latched = 0 ∧ r.periodTimer = none ∧ r.onTimer = none) ∧
  (r.state ≠ .inhibited → e.mode = .proportional →
    r.periodTimer.isSome ∧ (r.onTimer.isSome → 0 < r.latched ∧ r.latched < 100)) ∧
  r.demand ≤ 100 ∧ r.latched ≤ 100 ∧
  (r.state = .running → runningLaw e zones r) ∧ (r.state = .failsafe → failsafeLaw e zones r))

/-- Out of reset, every output stands by its active entry and its zones; in reset every pin is off (R185). -/
abbrev State.outputsLawful (s : State) : Prop :=
  if s.held then ∀ o, (tget s.outputs o).pin = false
  else ∀ o, outputLaw (tget s.active.outputs o) s.zones (tget s.outputs o)

/-! ### The sweep record (R148) -/

/-- R148: how the fields of the sweep record stand together, with the active list. -/
def sweepLaw (l : List (Option PodIx)) (w : SweepRecord) : Bool := decide (w.delayTimer.isSome = decide (w.state = .delaying) ∧
  (if w.state = .running then w.paceTimer.isSome = !w.due else w.paceTimer = none ∧ w.due = false) ∧
  (if l = [] then w.position = 0 ∧ w.state = .idle else w.position < l.length) ∧
  (w.state ≠ .idle → w.mode = .rounds → 1 ≤ w.rounds) ∧
  (∀ i, tget w.coverage i = true → some i ∈ l) ∧
  (w.covered = true → covers w.coverage l = true) ∧
  (w.done = true → w.state = .idle))

/-- The sweep record stands by the active list. -/
abbrev State.sweepLawful (s : State) : Prop := sweepLaw s.active.sweepList s.sweep

/-! ### Banks and the stored image (TABLE 10-2, R160, R167, R170, R181) -/

/-- TABLE 10-2: the ranges of a pod entry. -/
def podEntryRanges (e : PodEntry) : Bool := decide ((-512 ≤ e.airGain ∧ e.airGain ≤ 511) ∧ (-500 ≤ e.airOffset ∧ e.airOffset ≤ 500) ∧
  (-512 ≤ e.rhGain ∧ e.rhGain ≤ 511) ∧ (-500 ≤ e.rhOffset ∧ e.rhOffset ≤ 500) ∧
  (-512 ≤ e.surfGain ∧ e.surfGain ≤ 511) ∧ (-500 ≤ e.surfOffset ∧ e.surfOffset ≤ 500) ∧
  e.weight ≤ 4 ∧ 2 ≤ e.staleLimit ∧ e.staleLimit ≤ 3600)

/-- TABLE 10-2: the ranges of a zone entry. -/
def zoneEntryRanges (e : ZoneEntry) : Bool := decide ((0 ≤ e.watch ∧ e.watch ≤ 3000) ∧ (0 ≤ e.warn ∧ e.warn ≤ 3000) ∧ (0 ≤ e.alarm ∧ e.alarm ≤ 3000) ∧
  (0 ≤ e.hysteresis ∧ e.hysteresis ≤ 500) ∧ e.escDelay ≤ 600 ∧ e.relDelay ≤ 3600)

/-- TABLE 10-2: the ranges of an output entry. -/
def outputEntryRanges (e : OutputEntry) : Bool := decide ((-1000 ≤ e.onset ∧ e.onset ≤ 3000) ∧ (-1000 ≤ e.full ∧ e.full ≤ 3000) ∧ 1 ≤ e.period ∧ e.period ≤ 60)

/-- TABLE 10-2, R160: every field of a bank lies within its range, and its list has at most 64 places. -/
def bankRanges (b : Bank) : Bool := decide ((∀ i, podEntryRanges (tget b.pods i)) ∧ (∀ z, zoneEntryRanges (tget b.zones z)) ∧
  (∀ o, outputEntryRanges (tget b.outputs o)) ∧ b.sweepList.length ≤ 64 ∧
  (1 ≤ b.program.rounds ∧ b.program.rounds ≤ 255) ∧ b.program.startDelay ≤ 600 ∧
  (50 ≤ b.program.pace ∧ b.program.pace ≤ 10000) ∧ 20 ≤ b.field.window ∧ b.field.window ≤ 500)

/-- A bank fit to be active: within its ranges, and passing every check of TABLE 10-4. -/
def bankFit (b : Bank) : Bool := bankRanges b && validate b = none

/-- R167, R170, R181, R182: both banks lie within their ranges, and the active bank, the snapshot and a valid image are
fit to be active. -/
abbrev State.banksLawful (s : State) : Prop :=
  bankRanges s.bank0 ∧ bankRanges s.bank1 ∧ validate s.active = none ∧ (∀ b ∈ s.snapshot, bankFit b) ∧
  (imageValid s.image = true → bankFit s.image.bank)

/-- R182 to R184: while WRITING the snapshot is held, the store timer runs and the image is invalid; otherwise neither. -/
abbrev State.storeLawful (s : State) : Prop :=
  if s.storeState = .writing then
    s.snapshot.isSome ∧ s.storeTimer.isSome ∧ s.image.checkA = 255 ∧ s.image.checkB = 255
  else s.snapshot = none ∧ s.storeTimer = none

/-! ### Slots, queues and telegrams (R91, R93, R104, R107) -/

/-- R104, the slot conservation law: no slot is in two places, or twice in one. -/
abbrev State.slotsConserved (s : State) : Prop := s.occupied.Nodup

/-- R91: a complete telegram with a good check. -/
def isTelegram (t : List Byte) : Bool := decide (assembly t = .complete ∧ t.length = 5 + lengthOf t ∧ isGood t = true)

/-- R93, R107: a telegram for the field line: direction down, to an address that is neither 127 nor the own one. -/
abbrev State.isDownward (s : State) (t : List Byte) : Prop :=
  isTelegram t ∧ isUp (charAt t 0) = false ∧ addressOf (charAt t 0) ≠ 127 ∧ addressOf (charAt t 0) ≠ s.ownAddr

/-- R93: a telegram for the trunk: direction up. -/
abbrev isUpward (t : List Byte) : Prop := isTelegram t ∧ isUp (charAt t 0) = true

/-- R88: a telegram in progress. -/
abbrev isPartTelegram (t : List Byte) : Prop := t ≠ [] ∧ assembly t = .unfinished

/-- The telegram being received or sent by the trunk port. -/
def State.trunkSlotLaw (s : State) : Bool :=
  match s.trunkPort with
  | .listening => true
  | .receiving k _ =>
    isPartTelegram (s.slot k) ∧ isUp (charAt (s.slot k) 0) = false ∧ addressOf (charAt (s.slot k) 0) ≠ 127
  | .transmitting k _ => isUpward (s.slot k)

/-- The telegram being sent or received by the field port. -/
def State.fieldSlotLaw (s : State) : Bool :=
  match s.fieldPort with
  | .busy _ (.sending copy _ _) => isTelegram copy
  | .busy t (.receiving _ k) => isPartTelegram (s.slot k) ∧ charAt (s.slot k) 0 = upChar t.target
  | _ => true

/-- R103: a slot has 37 positions. -/
def slotLaw (u : Slot) : Bool := u.text.length + u.beyond.length = 37

/-- Every slot has its 37 positions, every waiting slot holds a whole good telegram bound the right way, and the ports'
slots hold what their states say. -/
abbrev State.telegramsLawful (s : State) : Prop :=
  (∀ k, slotLaw (tget s.slots k)) ∧ (∀ k ∈ s.downQ, s.isDownward (s.slot k)) ∧ (∀ k ∈ s.upQ, isUpward (s.slot k)) ∧
  s.trunkSlotLaw ∧ s.fieldSlotLaw

/-! ### Counters and time -/

/-- Section 0.4: every counter saturates at 65535. -/
abbrev State.countersLawful (s : State) : Prop := ∀ c, tget s.counters c ≤ 65535

/-- No stored moment lies in the future. -/
abbrev State.timeLawful (s : State) : Prop :=
  s.trunkQuiet ≤ s.now ∧ s.fieldQuiet ≤ s.now ∧ (∀ i, ∀ t ∈ (tget s.pods i).lastReply, t ≤ s.now) ∧
  ∀ z, (tget s.zones z).lastChange ≤ s.now

/-- A transaction record stands by the port's state: the outcome is set exactly in GUARD or once abandoned (R116, R134). -/
def State.txnLawful (s : State) : Bool :=
  match s.fieldPort with
  | .idle => true
  | .busy t (.sending _ _ k) => t.outcome = (if k.isSome then none else some .abandoned)
  | .busy t (.awaiting _ _) => t.outcome = none ∧ t.expectsReply = true
  | .busy t (.receiving _ _) => t.outcome = none ∧ t.expectsReply = true
  | .busy t (.guarding _) => t.outcome.isSome

/-! ### Which histories are on time (log entries 3, 4 and 15) -/

/-- A timer that runs has not been passed by more than an allowance. -/
abbrev notPast (s : State) (allow : Nat) (timer : Option Nat) : Prop := ∀ e ∈ timer, s.now ≤ e + allow

/-- The expiries of the trunk and field ports have not been passed. A gap timer may be taken one character time late,
since the start bit of a character holds it off and the character counts at its end. -/
def State.portsTimely (s : State) : Bool :=
  (match s.trunkPort with
  | .listening => true
  | .receiving _ gap => s.now ≤ gap + s.trunkChar
  | .transmitting _ ends => s.now ≤ ends) &&
  (match s.fieldPort with
  | .idle => true
  | .busy _ (.sending _ ends _) => s.now ≤ ends
  | .busy _ (.awaiting w _) => s.now ≤ w
  | .busy t (.receiving gap _) => s.now ≤ gap + Txn.charTime t
  | .busy _ (.guarding e) => s.now ≤ e)

/-- No running timer's moment has been passed. -/
abbrev State.timely (s : State) : Prop :=
  s.portsTimely ∧ (∀ i, notPast s 0 (tget s.pods i).deadline) ∧ (∀ z, notPast s 0 (tget s.zones z).timer.expiry) ∧
  (∀ o, notPast s 0 (tget s.outputs o).periodTimer ∧ notPast s 0 (tget s.outputs o).onTimer) ∧
  notPast s 0 s.sweep.delayTimer ∧ notPast s 0 s.sweep.paceTimer ∧ notPast s 0 s.storeTimer

/-- R142: the moment at which the conditions of a trunk transmission all hold if nothing happens before it, where the
port is LISTENING and UP-QUEUE holds a slot: the moment at which the quiet interval reaches 2 character times. -/
def State.transmissionMoment (s : State) : Option Nat :=
  match s.trunkPort, s.upQ with
  | .listening, _ :: _ => some (s.trunkQuiet + 2 * s.trunkChar)
  | _, _ => none

/-- R117, R119: a claimant waits for the field line: DOWN-QUEUE, or a sweep poll that is due with 3 slots FREE. -/
def State.txnWaits (s : State) : Bool :=
  !s.downQ.isEmpty || (s.sweep.due && s.nextPoll.isSome && 3 ≤ s.freeSlots.length)

/-- R117: the moment at which the conditions of a field transaction all hold if nothing happens before it. -/
def State.txnMoment (s : State) : Option Nat :=
  if s.fieldPort = .idle ∧ s.txnWaits then some (s.fieldQuiet + 2 * BitRate.charTime s.active.field.rate) else none

/-- R117, R142: no start is put off: a time that passes ends no later than the first moment at which the conditions of a
start hold, and where they hold already no time passes. -/
abbrev State.startsTimely (s : State) (dt : Nat) : Prop :=
  0 < dt → (∀ e ∈ s.transmissionMoment, s.now + dt ≤ e) ∧ ∀ e ∈ s.txnMoment, s.now + dt ≤ e

/-- A time may pass from one event to the next in the part's own histories: no expiry and no start falls before its end.
The model lets a history be late (log entries 3 and 4). -/
abbrev State.mayWait (s : State) (dt : Nat) : Prop := (s.elapse dt).timely ∧ s.startsTimely dt

end Sys2Proof.Machine
end

