-- ==== Sys2Proof/WellFormed.lean ====
section
/-! DEFINITION. Which commands can be sent: a telegram carries at most 32 payload characters (R91), and BAD_KIND stands
for a kind outside 0x50..0x60 (R171). Every other operand is in range by its type. -/

namespace Sys2Proof

/-- R91: a length character lies within 0..32. -/
def payloadFits (p : List Byte) : Bool := p.length ≤ 32

/-- R96: the management kinds. -/
def isManagementKind (k : Byte) : Bool := 0x50#8 ≤ k && k ≤ 0x60#8

/-- The commands that the lines and pins of the part can bring. -/
def Instr.wellFormed : Instr → Bool
  | .fullReset _ => true
  | .startUp _ _ => true
  | .trunkMarkCharacter _ _ _ => true
  | .trunkDataCharacter _ _ _ => true
  | .gapTimerExpiry _ _ => true
  | .trunkTransmissionStart _ => true
  | .trunkTransmissionEnd _ => true
  | .fieldTransactionStart _ => true
  | .fieldSendingEnd _ => true
  | .fieldMarkCharacter _ _ _ => true
  | .fieldDataCharacter _ _ _ => true
  | .replyWindowExpiry _ => true
  | .guardTimerExpiry _ => true
  | .staleDeadlineExpiry _ _ => true
  | .zoneTimerExpiry _ _ => true
  | .onTimeTimerExpiry _ _ => true
  | .periodTimerExpiry _ _ => true
  | .identify _ p => payloadFits p
  | .readStatus _ p => payloadFits p
  | .readZone _ p => payloadFits p
  | .readPod _ p => payloadFits p
  | .readEntry _ p => payloadFits p
  | .writePodEntry _ p => payloadFits p
  | .writeZoneEntry _ p => payloadFits p
  | .writeOutputEntry _ p => payloadFits p
  | .writeSweepList _ p => payloadFits p
  | .writeFieldSettings _ p => payloadFits p
  | .copyActive _ p => payloadFits p
  | .swap _ p => payloadFits p
  | .sweepControlStart _ => true
  | .sweepControlStop _ => true
  | .sweepControlResume _ => true
  | .delayTimerExpiry _ => true
  | .paceTimerExpiry _ => true
  | .outputControlInhibit _ _ => true
  | .outputControlRelease _ _ => true
  | .store _ p => payloadFits p
  | .storeTimerExpiry _ _ => true
  | .readCounters _ p => payloadFits p
  | .fieldRestart _ p => payloadFits p
  | .badKind _ k p => !isManagementKind k && payloadFits p

end Sys2Proof
end

