-- ==== Sys2Proof/Certificates/Slice0/Obligations.lean ====
section
/-! DEFINITION. The statements for the provers, and the few functions they are written with. -/

namespace Sys2Proof.Stated

open Sys2Proof.Machine

/-! ### Commands -/

/-- The time that passes before a command; START_UP sets the time base anew. -/
def elapsed : Instr → Option Nat
  | .startUp _ _ => none
  | .fullReset dt | .trunkMarkCharacter dt _ _ | .trunkDataCharacter dt _ _ | .gapTimerExpiry dt _
  | .trunkTransmissionStart dt | .trunkTransmissionEnd dt | .fieldTransactionStart dt | .fieldSendingEnd dt
  | .fieldMarkCharacter dt _ _ | .fieldDataCharacter dt _ _ | .replyWindowExpiry dt | .guardTimerExpiry dt
  | .staleDeadlineExpiry dt _ | .zoneTimerExpiry dt _ | .onTimeTimerExpiry dt _ | .periodTimerExpiry dt _
  | .identify dt _ | .readStatus dt _ | .readZone dt _ | .readPod dt _ | .readEntry dt _ | .writePodEntry dt _
  | .writeZoneEntry dt _ | .writeOutputEntry dt _ | .writeSweepList dt _ | .writeFieldSettings dt _
  | .copyActive dt _ | .swap dt _ | .sweepControlStart dt | .sweepControlStop dt | .sweepControlResume dt
  | .delayTimerExpiry dt | .paceTimerExpiry dt | .outputControlInhibit dt _ | .outputControlRelease dt _
  | .store dt _ | .storeTimerExpiry dt _ | .readCounters dt _ | .fieldRestart dt _ | .badKind dt _ _ => some dt

/-- TABLE 5-10: the kind and the payload that a management request brings, after a time. -/
def requestOf : Instr → Option (Nat × Byte × List Byte)
  | .identify dt p => some (dt, 0x50, p)
  | .readStatus dt p => some (dt, 0x51, p)
  | .readZone dt p => some (dt, 0x52, p)
  | .readPod dt p => some (dt, 0x53, p)
  | .readEntry dt p => some (dt, 0x54, p)
  | .writePodEntry dt p => some (dt, 0x55, p)
  | .writeZoneEntry dt p => some (dt, 0x56, p)
  | .writeOutputEntry dt p => some (dt, 0x57, p)
  | .writeSweepList dt p => some (dt, 0x58, p)
  | .writeFieldSettings dt p => some (dt, 0x59, p)
  | .copyActive dt p => some (dt, 0x5A, p)
  | .swap dt p => some (dt, 0x5B, p)
  | .sweepControlStart dt => some (dt, 0x5C, [0])
  | .sweepControlStop dt => some (dt, 0x5C, [1])
  | .sweepControlResume dt => some (dt, 0x5C, [2])
  | .outputControlInhibit dt o => some (dt, 0x5D, [o, 0])
  | .outputControlRelease dt o => some (dt, 0x5D, [o, 1])
  | .store dt p => some (dt, 0x5E, p)
  | .readCounters dt p => some (dt, 0x5F, p)
  | .fieldRestart dt p => some (dt, 0x60, p)
  | .badKind dt k p => some (dt, k, p)
  | _ => none

/-- A request finds the trunk port LISTENING out of reset, and is granted a slot. -/
def ready (s : State) (k : SlotNo) : Prop := s.held = false ∧ s.trunkPort = .listening ∧ s.grant = some k

/-- R103, R109: a slot after characters have been written in it from position 0 on; the positions after them keep what
they held. -/
def overlaid (u : Slot) (t : List Byte) : Slot := { text := t, beyond := (u.text ++ u.beyond).drop t.length }

/-- A state to which a request with one kind and payload, answered with one payload, has been added and nothing else: its
time has passed, its last character ended then, its slot holds the response written over the request and has joined
UP-QUEUE, and TRUNK-GOOD is counted (R101, R107, R141). -/
def answered (s : State) (dt : Nat) (k : SlotNo) (kind : Byte) (request payload : List Byte) : State :=
  { s with
      now := s.now + dt, trunkQuiet := s.now + dt,
      slots := tset s.slots k (overlaid (overlaid (tget s.slots k) (telegram (downChar s.ownAddr) kind request))
        (telegram (upChar s.ownAddr) kind payload)),
      upQ := s.upQ ++ [k],
      counters := tset s.counters 0 (satSucc 65535 (tget s.counters 0)) }

/-- The commands taken in order; a run stops at the first that does not answer next. -/
def runAll (s : State) : List Instr → Host.Outcome State Fault Refusal
  | [] => .next s
  | c :: cs =>
    match exec c s with
    | .next t => runAll t cs
    | o => o

/-- The characters of a good telegram to the own address, the first after a time and the rest at once. -/
def asCharacters (s : State) (dt : Nat) (kind : Byte) (p : List Byte) : List Instr :=
  .trunkMarkCharacter dt (downChar s.ownAddr) true ::
    (telegram (downChar s.ownAddr) kind p).tail.map fun c => .trunkDataCharacter 0 c true

/-- TABLE 5-10, R171: a payload length that is not the one of a management kind. -/
def wrongLength (kind : Byte) (n : Nat) : Prop :=
  ((kind = 0x50 ∨ kind = 0x51 ∨ kind = 0x5A ∨ kind = 0x5B ∨ kind = 0x5E ∨ kind = 0x60) ∧ n ≠ 0) ∨
  ((kind = 0x52 ∨ kind = 0x53 ∨ kind = 0x5C ∨ kind = 0x5F) ∧ n ≠ 1) ∨ (kind = 0x5D ∧ n ≠ 2) ∨ (kind = 0x54 ∧ n ≠ 3) ∨
  (kind = 0x55 ∧ n ≠ 19) ∨ (kind = 0x56 ∧ n ≠ 14) ∨ (kind = 0x57 ∧ n ≠ 11) ∨ (kind = 0x58 ∧ (n < 2 ∨ 30 < n)) ∨
  (kind = 0x59 ∧ n ≠ 9)

/-- R87, R94: the bits of a telegram on the line, 11 to a character: start bit 0, the data bits with the lowest first, the
mark bit, 1 on the first character alone, and stop bit 1. -/
def lineBits (t : List Byte) : List Bool :=
  t.zipIdx.flatMap fun c =>
    [false, c.1.getLsbD 0, c.1.getLsbD 1, c.1.getLsbD 2, c.1.getLsbD 3, c.1.getLsbD 4, c.1.getLsbD 5, c.1.getLsbD 6,
      c.1.getLsbD 7, c.2 = 0, true]

/-! ### Start-up (R86, R158) -/

/-- R86: an output at the end of full reset. -/
def startedOutput (e : OutputEntry) : OutputRecord :=
  { state := if e.mode = .off then .idle else .failsafe,
    pin := e.mode ≠ .off && e.failAction = .on, demand := 0, latched := 0,
    periodTimer := if e.mode = .proportional then some (sec e.period) else none, onTimer := none, isPartial := false }

/-- R149, R158: the sweep record after a START at a moment, or, where the START is not taken, IDLE. -/
def startedSweep (b : Bank) (now : Nat) : SweepRecord :=
  if b.program.startMode = .off ∨ b.sweepList = [] then
    { state := .idle, mode := .rounds, position := 0, rounds := 0, delayTimer := none, paceTimer := none, due := false,
      done := false, coverage := tconst 63 false, covered := false }
  else
    { state := if b.program.startDelay = 0 then .running else .delaying,
      mode := if b.program.startMode = .continuous then .continuous else .rounds,
      position := 0, rounds := b.program.rounds,
      delayTimer := if b.program.startDelay = 0 then none else some (now + sec b.program.startDelay),
      paceTimer := none, due := b.program.startDelay = 0, done := false, coverage := tconst 63 false,
      covered := false }

/-! ### Response bodies (TABLE 5-11) -/

/-- R82: the OUTPUT-CONTROL body. -/
def outputReport (now : Nat) (o : OutIx) (r : OutputRecord) : List Byte :=
  num1 (o.val + 1) ++ num1 (OutputState.code r.state) ++ num1 (flagNum r.pin) ++ num1 r.demand ++ num1 r.latched ++
  num1 (flagNum r.isPartial) ++ num2 (match r.periodTimer with | some e => (e - now) / ticksPerMs | none => 0)

/-- R61: the READ-ZONE body. -/
def zoneReport (now : Nat) (z : ZoneIx) (r : ZoneRecord) : List Byte :=
  num1 (z.val + 1) ++ num1 (ZoneState.code r.state) ++ signedOpt (r.values.map ZoneValues.dew) ++
  signedOpt (r.values.map ZoneValues.surface) ++ signedOpt (r.values.map ZoneValues.margin) ++
  num1 (podNum (r.values.map ZoneValues.worstDew)) ++ num1 (podNum (r.values.map ZoneValues.coldestSurf)) ++
  num1 r.airCount ++ num1 r.surfCount ++ num1 (targetCode r.target) ++ num1 (ZoneTimer.code r.timer) ++
  num2 (match r.timer with
    | .none => 0
    | .escalation e => (e - now + (1000 * ticksPerMs - 1)) / (1000 * ticksPerMs)
    | .release e => (e - now + (1000 * ticksPerMs - 1)) / (1000 * ticksPerMs)) ++
  num2 (min ((now - r.lastChange) / (1000 * ticksPerMs)) 65535)

/-- R33: the age of a pod record in seconds. -/
def ageSeconds (now : Nat) (r : PodRecord) : Nat :=
  match r.lastReply with
  | some t => min ((now - t) / (1000 * ticksPerMs)) 65535
  | none => 65535

/-- R33: the READ-POD body. -/
def podReport (now : Nat) (i : PodIx) (e : PodEntry) (r : PodRecord) : List Byte :=
  num1 (i.val + 1) ++ num1 (Role.code e.role) ++ num1 (Freshness.code r.freshness) ++
  num1 (flagNum r.clamped + 2 * flagNum r.dry + 4 * flagNum r.below + 8 * flagNum r.sensorFault +
    16 * flagNum r.reseed + 32 * flagNum r.late + 64 * flagNum r.lastSeq.isSome) ++
  [r.lastSeq.getD 0] ++ signedOpt r.airTemp ++ num2Opt (r.rh.map Int.toNat) ++ signedOpt r.surfTemp ++
  signedOpt r.dewPoint ++ num2Opt r.interval ++ num1 r.missCount ++ num2 r.sampleCount ++ num2 (ageSeconds now r)

/-- R173: the READ-STATUS body, from the state as the request finds it. Its own slot is not FREE (R113). -/
def statusReport (s : State) : List Byte :=
  num1 (BankNo.code s.selector) ++ num1 (StoreState.code s.storeState) ++ num1 (flagNum s.imageBad) ++
  num1 (SweepState.code s.sweep.state) ++ num1 (flagNum s.sweep.done + 2 * flagNum s.sweep.covered) ++
  num1 s.sweep.rounds ++ num1 s.sweep.position ++ num1 (FieldPort.code s.fieldPort) ++
  num1 (s.freeSlots.length - 1) ++
  ((List.finRange 8).flatMap fun n =>
    num1 (ZoneState.code (tget s.zones ⟨2 * n.val, by omega⟩).state +
      16 * ZoneState.code (tget s.zones ⟨2 * n.val + 1, by omega⟩).state)) ++
  num2 s.changeSet.toNat

/-- R100, R62: the annotation block of a pod. -/
def annotationBlock (s : State) (i : PodIx) : List Byte :=
  match (s.podEntry i).zone with
  | some z =>
    num1 (z.val + 1) ++ num1 (ZoneState.code (tget s.zones z).state) ++ signedOpt (tget s.pods i).dewPoint ++
    signedOpt ((tget s.zones z).values.map ZoneValues.margin)
  | none => num1 0 ++ num1 0 ++ signedOpt (tget s.pods i).dewPoint ++ num2 0x8000

/-! ### Outputs recomputed (R80, R83) -/

/-- R80, R83: an output of mode LEVEL or PROPORTIONAL recomputed from its mapped zones; `holds` is the demand it holds
where no mapped zone is seen. -/
def recomputed (e : OutputEntry) (zones : Vector ZoneRecord 16) (now holds : Nat) (old : OutputRecord) : OutputRecord :=
  let seen := anySeen e zones
  let duty := if seen then demandOf e zones holds else holds
  if e.mode = .level then
    { state := if seen then .running else .failsafe, demand := 0, latched := 0, periodTimer := none, onTimer := none,
      isPartial := seen && anyBlind e zones,
      pin := if seen then levelPin e zones
             else match e.failAction with | .off => false | .on => true | .hold => old.pin }
  else
    { state := if seen then .running else .failsafe, demand := duty, latched := duty,
      periodTimer := some (now + e.period * 1000 * ticksPerMs),
      onTimer := if 1 ≤ duty ∧ duty ≤ 99 then some (now + e.period * duty * 10 * ticksPerMs) else none,
      isPartial := seen && anyBlind e zones,
      pin := if seen = true ∨ e.failAction = .hold then decide ((1 ≤ duty ∧ duty ≤ 99) ∨ duty = 100)
             else decide (e.failAction = .on) }

/-! ### Samples and coverage (R3 to R14, R18, R24 to R26, R155) -/

/-- R3 to R14, R18, R24, R26, TABLE 2-4: the pod record that a new sample leaves, field by field. -/
def sampled (e : PodEntry) (now : Nat) (r : PodRecord) (p : List Byte) : PodRecord :=
  let seeds : Bool := r.freshness ≠ .fresh || r.reseed
  let hasAir : Bool := e.role = .air || e.role = .dual
  let hasSurf : Bool := e.role = .surface || e.role = .dual
  let rawAir := corrected (readSigned2 p 2) e.airGain e.airOffset
  let rawRh := corrected (readNum2 p 4) e.rhGain e.rhOffset
  let rawSurf := corrected (readSigned2 p (if e.role = .dual then 6 else 2)) e.surfGain e.surfOffset
  let air := filtered seeds e.weight r.airTemp (max (-1000) (min 5000 rawAir))
  let rh := filtered seeds e.weight r.rh (max 0 (min 10000 rawRh))
  let surf := filtered seeds e.weight r.surfTemp (max (-1000) (min 5000 rawSurf))
  { freshness := .fresh, lastSeq := some (charAt p 1), payload := some p,
    airTemp := if hasAir then some air else r.airTemp,
    rh := if hasAir then some rh else r.rh,
    surfTemp := if hasSurf then some surf else r.surfTemp,
    dewPoint := if hasAir then some (dewPoint air rh).dew else r.dewPoint,
    clamped := (hasAir && (rawAir < -1000 || 5000 < rawAir || rawRh < 0 || 10000 < rawRh)) ||
      (hasSurf && (rawSurf < -1000 || 5000 < rawSurf)),
    dry := if hasAir then (dewPoint air rh).dry else r.dry,
    below := if hasAir then (dewPoint air rh).below else r.below,
    sensorFault := false, reseed := false,
    late := match r.lastReply with
      | some t => decide (e.staleLimit * 1000 * ticksPerMs < now - t)
      | none => r.late,
    lastReply := some now, deadline := some (now + e.staleLimit * 1000 * ticksPerMs),
    interval := match r.lastReply with
      | some t => some (min ((now - t) / (100 * ticksPerMs)) 65535)
      | none => r.interval,
    missCount := 0, sampleCount := if r.sampleCount < 65535 then r.sampleCount + 1 else r.sampleCount }

/-- R24, R25: the pod record that a repeat leaves. -/
def repeatedRecord (e : PodEntry) (now : Nat) (r : PodRecord) : PodRecord :=
  { r with
      missCount := 0, sensorFault := false, lastReply := some now,
      deadline := some (now + e.staleLimit * 1000 * ticksPerMs),
      late := match r.lastReply with
        | some t => decide (e.staleLimit * 1000 * ticksPerMs < now - t)
        | none => r.late,
      interval := match r.lastReply with
        | some t => some (min ((now - t) / (100 * ticksPerMs)) 65535)
        | none => r.interval }

/-- R155: an accepted reply's pod enters the coverage set where the active list names it and it is not in the set yet.
At each entry COVERED is set where every listed pod is in the set, and once set it stays. -/
def covering (s : State) (i : PodIx) : State :=
  let w := s.sweep
  let coverage := tset w.coverage i true
  if some i ∈ s.active.sweepList ∧ tget w.coverage i = false then
    { s with sweep := { w with
        coverage := coverage,
        covered := w.covered || decide (∀ j, some j ∈ s.active.sweepList → tget coverage j = true) } }
  else s

/-! ### Re-drives and zone changes (R56 to R60, R69 to R78) -/

/-- A zone of an output's zone set has a property. -/
def mapped (e : OutputEntry) (zones : Vector ZoneRecord 16) (has : ZoneState → Bool) : Bool :=
  (List.finRange 16).any fun z => e.zoneSet.getLsbD z.val && has (tget zones z).state

/-- R69, R70, R71, R75, R76, R78: a re-drive of one output, whatever its fields. What it does not name is kept: the latched
duty and both timers always, and the demand outside RUNNING. -/
def redriven (e : OutputEntry) (zones : Vector ZoneRecord 16) (q : OutputRecord) : OutputRecord :=
  let seen := mapped e zones fun z => z ≠ .unused && z ≠ .blind
  let blind := mapped e zones fun z => z = .blind
  let asked := mapped e zones fun z =>
    match z with
    | .risk c => OutputLevel.code e.level ≤ 2 + RiskClass.severity c
    | _ => false
  let cycle := q.onTimer.isSome || q.latched = 100
  if q.state = .idle ∨ q.state = .inhibited ∨ (seen = true ∧ e.mode = .off) ∨ (seen = false ∧ q.state = .failsafe) then q
  else if seen = true then
    { q with
        state := .running, isPartial := blind,
        demand := if e.mode = .proportional then demandOf e zones q.demand else q.demand,
        pin := if e.mode = .proportional then cycle else asked }
  else
    { q with
        state := .failsafe, isPartial := false,
        pin := match e.failAction with
          | .off => false
          | .on => true
          | .hold => if e.mode = .proportional then cycle else q.pin }

/-- R56 to R58, R60: a zone record written by an event, with what follows. A change of state sets the time of last change,
joins the change set and recomputes the alert line; a change of state or of margin re-drives the outputs that map the
zone; nothing else changes. -/
def zoneWritten (s : State) (z : ZoneIx) (r : ZoneRecord) : State :=
  let old := tget s.zones z
  let zones := tset s.zones z (if r.state = old.state then r else { r with lastChange := s.now })
  { s with
      zones := zones,
      changeSet := if r.state = old.state then s.changeSet else s.changeSet ||| (1#16 <<< z.val),
      alert := if r.state = old.state then s.alert
               else (List.finRange 16).any fun y => (tget zones y).state = .risk .alarm,
      outputs := tmap s.outputs fun o q =>
        if (r.state ≠ old.state ∨ r.values.map ZoneValues.margin ≠ old.values.map ZoneValues.margin) ∧
            (tget s.active.outputs o).zoneSet.getLsbD z.val = true then
          redriven (tget s.active.outputs o) zones q
        else q }

/-- R27, R29, R45: the zone that a pod's active entry names is evaluated, if it is enabled. -/
def podZoneEvaluated (s : State) (i : PodIx) : State :=
  match (s.podEntry i).zone with
  | some z => if (tget s.active.zones z).enabled = true then zoneWritten s z (s.evaluated z) else s
  | none => s

/-! ### Swap validation (R165) -/

/-- TABLE 10-4, row by row in its order: the reason code, the index reported, and whether the check fails. -/
def swapChecks (b : Bank) : List (Nat × Nat × Bool) :=
  ((List.finRange 16).flatMap fun z =>
    let e := tget b.zones z
    let air := (List.finRange 63).countP fun i =>
      (tget b.pods i).zone = some z && ((tget b.pods i).role = .air || (tget b.pods i).role = .dual)
    let surf := (List.finRange 63).countP fun i =>
      (tget b.pods i).zone = some z && ((tget b.pods i).role = .surface || (tget b.pods i).role = .dual)
    [(1, z.val + 1, e.enabled && air = 0), (2, z.val + 1, e.enabled && surf = 0), (3, z.val + 1, e.enabled && 8 < air),
      (4, z.val + 1, e.enabled && 8 < surf), (5, z.val + 1, e.enabled && !(e.alarm < e.warn && e.warn < e.watch))]) ++
  ((List.finRange 4).flatMap fun o =>
    let e := tget b.outputs o
    [(6, o.val + 1, e.mode ≠ .off && e.zoneSet = 0),
      (7, o.val + 1, e.mode ≠ .off &&
        (List.finRange 16).any fun z => e.zoneSet.getLsbD z.val && !(tget b.zones z).enabled),
      (8, o.val + 1, e.mode = .proportional && e.onset ≤ e.full)]) ++
  (List.range b.sweepList.length).map fun j =>
    (9, j, match b.sweepList.getD j none with
      | some i => (tget b.pods i).role = .absent
      | none => true)

/-! ### A swap (R35 to R38, R63, R156) -/

/-- R35 to R38: a pod record at a swap. -/
def swappedPod (old new : PodEntry) (now : Nat) (r : PodRecord) : PodRecord :=
  if old.role ≠ new.role then { neverPod with missCount := r.missCount }
  else
    let air := new.role = .air ∨ new.role = .dual
    let surf := new.role = .surface ∨ new.role = .dual
    let reseeds :=
      (air ∧ (old.airGain ≠ new.airGain ∨ old.airOffset ≠ new.airOffset ∨ old.rhGain ≠ new.rhGain ∨
        old.rhOffset ≠ new.rhOffset)) ∨
      (surf ∧ (old.surfGain ≠ new.surfGain ∨ old.surfOffset ≠ new.surfOffset)) ∨ old.weight ≠ new.weight
    let q := { r with reseed := r.reseed || reseeds }
    match r.freshness, r.lastReply with
    | .fresh, some t =>
      if old.staleLimit = new.staleLimit then q
      else if t + new.staleLimit * 1000 * ticksPerMs ≤ now then { q with freshness := .stale, deadline := none }
      else { q with deadline := some (t + new.staleLimit * 1000 * ticksPerMs) }
    | _, _ => q

/-- R63: a zone record as a swap leaves it, before the moment of its last change is set. -/
def swappedZone (s : State) (z : ZoneIx) (r : ZoneRecord) : ZoneRecord :=
  let e := tget s.active.zones z
  if e.enabled = false then
    { r with state := .unused, values := none, airCount := 0, surfCount := 0, target := none, timer := .none }
  else if r.state = .unused then
    evaluateRecord e s.now (s.freshAir z) (s.freshSurface z)
      { r with state := .blind, values := none, airCount := 0, surfCount := 0, target := none, timer := .none }
  else
    evaluateRecord e s.now (s.freshAir z) (s.freshSurface z) { r with target := none, timer := .none }

/-- R156: the sweep record at a swap. -/
def swappedSweep (l : List (Option PodIx)) (w : SweepRecord) : SweepRecord :=
  if l = [] ∧ w.state ≠ .idle then
    { w with state := .idle, position := 0, rounds := 0, delayTimer := none, paceTimer := none, due := false,
             coverage := tconst 63 false, covered := false }
  else { w with position := 0, coverage := tconst 63 false, covered := false }

/-! ### Transactions (R99, R100, R116, R123 to R129) -/

/-- R116: the transaction record of a request. -/
def newTransaction (s : State) (origin : Origin) (request : List Byte) : Txn :=
  let a := (charAt request 0).setWidth 7
  { target := a, origin := origin,
    isSample := kindOf request = 0x21 ∧ (charAt request 0).getLsbD 7 = false ∧ 1 ≤ a.toNat ∧ a.toNat ≤ 63,
    expectsReply := a ≠ 0, rate := s.active.field.rate, window := s.active.field.window, outcome := none }

/-- R98, R99, R128: the payload of the held reply that a miss builds, if it builds one. -/
def heldReply (s : State) (t : Txn) : Option (List Byte) :=
  match podOf t.target.toNat with
  | some i =>
    let e := s.podEntry i
    let r := tget s.pods i
    if t.origin = .trunk ∧ t.isSample = true ∧ e.role ≠ .absent ∧ e.substitute = true ∧ r.freshness ≠ .never then
      r.payload.map fun p =>
        (charAt p 0 ||| 0x02) :: p.drop 1 ++ num2 (ageSeconds s.now r) ++ (if e.annotate then annotationBlock s i else [])
    else none
  | none => none

/-- R127, R128: a transaction ended as a miss, with its slot. -/
def missed (s : State) (t : Txn) (k : SlotNo) : State :=
  let a := s.count .fieldMisses
  let b :=
    match podOf t.target.toNat with
    | some i =>
      let r := tget s.pods i
      { a with pods := tset s.pods i { r with missCount := if r.missCount < 255 then r.missCount + 1 else r.missCount } }
    | none => a
  let c :=
    match heldReply s t, podOf t.target.toNat with
    | some body, some i =>
      let d := if (s.podEntry i).annotate then (b.count .substitutes).count .annotated else b.count .substitutes
      { d with slots := tset s.slots k (overlaid (tget s.slots k) (telegram (upChar t.target) 0x23 body)),
               upQ := s.upQ ++ [k] }
    | _, _ => b
  { c with fieldPort := .busy { t with outcome := some .miss } (.guarding (s.now + 4 * BitRate.charTime t.rate)) }

/-- R123 to R125, TABLE 7-3: a good reply disposed of, with its slot. -/
def disposed (s : State) (t : Txn) (k : SlotNo) (reply : List Byte) : State :=
  let a := s.count .fieldReplies
  let p := payloadOf reply
  let delivered :=
    match podOf t.target.toNat with
    | some i => if t.isSample = true ∧ kindOf reply = 0x21 ∧ (s.podEntry i).role ≠ .absent then some i else none
    | none => none
  let b :=
    match t.origin, delivered with
    | .sweep, some i => a.takeReply i p
    | .sweep, none => a
    | .trunk, none => { a with upQ := a.upQ ++ [k] }
    | .trunk, some i =>
      if (s.podEntry i).annotate = false ∨ sampleLength (s.podEntry i).role ≠ some p.length then
        let c :=
          if (s.podEntry i).annotate = true ∧ 26 < lengthOf reply then (a.count .annotSkipped).takeReply i p
          else a.takeReply i p
        { c with upQ := c.upQ ++ [k] }
      else
        let c := (a.takeReply i p).count .annotated
        { c with
            slots := tset c.slots k
              (overlaid (tget c.slots k) (telegram (charAt reply 0) (kindOf reply) (p ++ annotationBlock c i))),
            upQ := c.upQ ++ [k] }
  { b with fieldPort := .busy { t with outcome := some .reply } (.guarding (s.now + 2 * BitRate.charTime t.rate)) }

end Sys2Proof.Stated

open Sys2Proof Sys2Proof.Machine Sys2Proof.Stated

/-! ## The step -/

/-- One step takes the command at the front of the queue and runs it on the state with the rest of the queue; on an
empty queue it changes nothing (the model's choice, log entry 17). -/
def Obligations.StepTakesFrontCommand : Prop :=
  (∀ (c : Instr) (s : State), step { s with pending := c :: s.pending } = exec c s) ∧
  ∀ s : State, s.pending = [] → step s = .next s

/-- Every command answers a next state in every state (log entry 22), leaves the queue to the step and the straps to
START_UP, and lets its own time pass and no other (log entry 2). START_UP needs no reset before it (log entry 6) and sets
the time base to 0. -/
def Obligations.EveryCommandAnswersNext : Prop :=
  ∀ (c : Instr) (s : State), ∃ t, exec c s = .next t ∧ t.pending = s.pending ∧
    match elapsed c with
    | some dt => t.now = s.now + dt ∧ t.trate = s.trate ∧ t.addrStrap = s.addrStrap
    | none => t.now = 0 ∧ t.held = false

/-! ## Reset and start-up -/

/-- While the part is held in reset no event but a reset or start-up has an effect: only time passes (log entry 5). -/
def Obligations.HeldPartOnlyWaits : Prop :=
  ∀ (c : Instr) (dt : Nat) (s : State), elapsed c = some dt → c ≠ .fullReset dt → s.held = true →
    exec c s = .next { s with now := s.now + dt }

/-- FULL_RESET: pins off, alert and drivers released, no slot held, a write stopped with its snapshot lost, and the rest
kept until start-up (R184, R185, R114; what the other records hold in reset is the model's choice, log entry 7). -/
def Obligations.FullResetReleasesThePins : Prop :=
  ∀ (dt : Nat) (s : State), ∃ t, exec (.fullReset dt) s = .next t ∧
    t = { s with
            now := s.now + dt, held := true, trunkPort := .listening, fieldPort := .idle, downQ := [], upQ := [],
            alert := false, outputs := tmap s.outputs (fun _ r => { r with pin := false }), storeState := .idle,
            snapshot := none, storeTimer := none } ∧
    (∀ o, (tget t.outputs o).pin = false) ∧ t.trkDe = false ∧ t.fldDe = false ∧ t.occupied = []

/-- START_UP: R186 and TABLE 12-2, every field of the state. That the slots' old characters stay, that the sweep mode of
a START not taken is ROUNDS, and that the free values and the queue go on are the model's choices (log entries 9, 12, 10
and 17), and so is a START_UP in a state that no reset holds (log entry 6). -/
def Obligations.StartUpSetsThePartUp : Prop :=
  ∀ (trate : BitVec 2) (addr : BitVec 6) (s : State),
    let b := if imageValid s.image then s.image.bank else factoryBank
    exec (.startUp trate addr) s = .next
      { now := 0, held := false, trate := trate, addrStrap := addr, trunkPort := .listening, trunkQuiet := 0,
        slots := s.slots, downQ := [], upQ := [], fieldPort := .idle, fieldQuiet := 0,
        pods := tconst 63 neverPod,
        zones := tmap b.zones (fun _ e =>
          { state := if e.enabled then .blind else .unused, values := none, airCount := 0, surfCount := 0,
            target := none, timer := .none, lastChange := 0 }),
        changeSet := 0, alert := false, outputs := tmap b.outputs (fun _ e => startedOutput e),
        sweep := startedSweep b 0, bank0 := b, bank1 := b, selector := .zero, image := s.image, storeState := .idle,
        imageBad := !imageValid s.image, snapshot := none, storeTimer := none, counters := tconst 15 0,
        freeCount := s.freeCount, pending := s.pending }

/-- The state after reset, with the values of log entries 8, 9, 10 and 12, satisfies every law of Safety.lean; and a
START_UP with both straps at 0, taken there without a reset (log entry 6), leaves it as it is. -/
def Obligations.ResetSatisfiesTheLaws : Prop :=
  State.reset.podsLawful ∧ State.reset.zonesLawful ∧ State.reset.alertLawful ∧ State.reset.outputsLawful ∧
  State.reset.sweepLawful ∧ State.reset.banksLawful ∧ State.reset.storeLawful ∧ State.reset.slotsConserved ∧
  State.reset.telegramsLawful ∧ State.reset.countersLawful ∧ State.reset.timeLawful ∧ State.reset.txnLawful = true ∧
  exec (.startUp 0 0) State.reset = .next State.reset

/-! ## Dew-point arithmetic -/

/-- R3: a raw value is corrected by the nearest integer to x × g / 4096, halves away from zero, and the offset. -/
def Obligations.CorrectionRoundsHalvesAwayFromZero : Prop :=
  (∀ x g o : Int, ∃ r : Int, corrected x g o = x + r + o ∧ 2 * |4096 * r - x * g| ≤ 4096 ∧
    (2 * |4096 * r - x * g| = 4096 → |x * g| < |4096 * r|)) ∧
  corrected 32767 511 0 = 32767 + 4088 ∧ corrected 65535 511 0 = 65535 + 8176 ∧
  (∀ x o : Int, corrected x 0 o = x + o) ∧ corrected 1024 (-2) 0 = 1023 ∧ corrected (-1024) (-2) 0 = -1023

/-- R5 to R7: a seeded filter takes the value, whether the record holds one or, as a NEVER record does, none; a stepped one
moves by the rounded quotient, never past the value, and not at all within the deadband. A filter that would step but holds
no value is seeded (log entry 19). -/
def Obligations.FilterStepStaysBetween : Prop :=
  ∀ (k : Nat) (v c : Int),
    filtered true k (some v) c = c ∧ filtered true k none c = c ∧ filtered false k none c = c ∧
    ∃ w, filtered false k (some v) c = w ∧
      (v ≤ c → v ≤ w ∧ w ≤ c) ∧ (c ≤ v → c ≤ w ∧ w ≤ v) ∧ (k = 0 → w = c) ∧
      2 * |2 ^ k * (w - v) - (c - v)| ≤ 2 ^ k ∧ (2 * |c - v| < 2 ^ k → w = v) ∧
      (2 * |2 ^ k * (w - v) - (c - v)| = 2 ^ k → |c - v| < |2 ^ k * (w - v)|)

/-- R8: linear interpolation between the knots of TABLE 1-3, in range, and rising or level. -/
def Obligations.SaturationInterpolatesTheKnots : Prop :=
  knots = [286, 422, 611, 872, 1228, 1705, 2339, 3169, 4246, 5628, 7384, 9593, 12350] ∧
  (∀ (i : Nat) (f : Int), i ≤ 11 → 0 ≤ f → f < 500 →
    saturation (500 * i + f - 1000) = knot i + (knot (i + 1) - knot i) * f / 500) ∧
  saturation 5000 = 12350 ∧
  ∀ t u : Int, -1000 ≤ t → t ≤ u → u ≤ 5000 → 286 ≤ saturation t ∧ saturation t ≤ saturation u ∧ saturation u ≤ 12350

/-- R10: the vapour pressure is floor(es × RH / 10000), and equals es only at saturation. -/
def Obligations.VapourPressureBelowSaturation : Prop :=
  ∀ t rh : Int, -1000 ≤ t → t ≤ 5000 → 0 ≤ rh → rh ≤ 10000 →
    vapourPressure t rh = saturation t * rh / 10000 ∧ vapourPressure t rh ≤ saturation t ∧
    (vapourPressure t rh = saturation t → rh = 10000) ∧ saturation t * rh ≤ 12350 * 10000

/-- R9, R11: dry air, thin vapour, the top of the table, and the inverse interpolation. -/
def Obligations.DewPointInvertsTheKnots : Prop :=
  ∀ t rh : Int,
    (rh < 100 → dewPoint t rh = { dew := -1000, dry := true, below := false }) ∧
    (100 ≤ rh →
      let e := vapourPressure t rh
      (e < 286 → dewPoint t rh = { dew := -1000, dry := false, below := true }) ∧
      (12350 ≤ e → dewPoint t rh = { dew := 5000, dry := false, below := false }) ∧
      ∀ j : Nat, j ≤ 11 → knot j ≤ e → e < knot (j + 1) →
        dewPoint t rh =
          { dew := -1000 + 500 * j + (e - knot j) * 500 / (knot (j + 1) - knot j), dry := false, below := false } ∧
        -1000 ≤ (dewPoint t rh).dew ∧ (dewPoint t rh).dew ≤ 4999)

/-- R12, R13: a dew point lies in range, not above its air temperature, and rises or stays level with the air
temperature and with the RH. -/
def Obligations.DewPointOrderedAndNotAboveAir : Prop :=
  ∀ t u rh rh' : Int, -1000 ≤ t → t ≤ u → u ≤ 5000 → 0 ≤ rh → rh ≤ rh' → rh' ≤ 10000 →
    -1000 ≤ (dewPoint t rh).dew ∧ (dewPoint t rh).dew ≤ t ∧ (dewPoint t rh).dew ≤ (dewPoint u rh').dew

/-! ## Pods -/

/-- TABLE 2-4: what a taken reply does in each of its four outcomes, for a pod whose role is not ABSENT: a role mismatch
and a fault report (R22, R23), a repeat (R24, R25), and a new sample, with every field of the record as R3 to R14 and R18
compute it (R26). A repeat and a new sample enter the coverage set (R155), and a new sample has its zone evaluated, with
the effects of R56 to R60 (R27). A stepped value that the record does not hold is seeded (log entry 19). -/
def Obligations.TakenReplyHasFourOutcomes : Prop :=
  ∀ (s : State) (i : PodIx) (p : List Byte),
    let e := s.podEntry i
    let r := tget s.pods i
    e.role ≠ .absent →
    s.takeReply i p =
      if (match e.role with | .surface => 4 | .dual => 8 | _ => 6) ≠ p.length then s.count .roleMismatch
      else if (charAt p 0).getLsbD 0 = true then
        { s with pods := tset s.pods i { r with sensorFault := true, missCount := 0 } }.count .sensorFaults
      else if r.freshness = .fresh ∧ r.lastSeq = some (charAt p 1) then
        covering { s with pods := tset s.pods i (repeatedRecord e s.now r) } i
      else podZoneEvaluated (covering { s with pods := tset s.pods i (sampled e s.now r p) } i) i

/-- R29: a FRESH record whose deadline has been reached becomes STALE, everything held; its enabled zone, if any, is
evaluated, with the effects of R56 to R60 on that zone's record, the change set, the alert line and the outputs that map
it, and nothing else changes. Before the deadline, or with none running, only time passes (log entry 3). -/
def Obligations.StaleDeadlineHoldsTheValues : Prop :=
  ∀ (dt : Nat) (i : PodIx) (s : State), s.held = false →
    let r := tget s.pods i
    exec (.staleDeadlineExpiry dt i) s = .next
      (if r.freshness = .fresh ∧ isDue (s.now + dt) r.deadline = true then
        podZoneEvaluated
          { s with now := s.now + dt, pods := tset s.pods i { r with freshness := .stale, deadline := none } } i
      else { s with now := s.now + dt })

/-- Every step keeps each pod record as R7, R12, R19, R20, R28 and R98 give it for its active entry. -/
def Obligations.EveryStepKeepsPodRecordsLawful : Prop :=
  ∀ s t : State, s.podsLawful → step s = .next t → t.podsLawful

/-! ## Zones -/

/-- R42, R46, R47: an evaluation takes the wettest fresh air and the coldest fresh surface, the lowest address among
equals, and takes the state step of `StateStepFollowsTheClasses` at their margin, or goes BLIND where either kind is
missing. -/
def Obligations.EvaluationTakesWorstDewAndColdestSurface : Prop :=
  ∀ (s : State) (z : ZoneIx),
    let r := s.evaluated z
    (∀ (i : PodIx) (d : Int), (i, d) ∈ s.freshAir z ↔
      (s.podEntry i).zone = some z ∧ ((s.podEntry i).role = .air ∨ (s.podEntry i).role = .dual) ∧
      (tget s.pods i).freshness = .fresh ∧ (tget s.pods i).dewPoint = some d) ∧
    (∀ (i : PodIx) (t : Int), (i, t) ∈ s.freshSurface z ↔
      (s.podEntry i).zone = some z ∧ ((s.podEntry i).role = .surface ∨ (s.podEntry i).role = .dual) ∧
      (tget s.pods i).freshness = .fresh ∧ (tget s.pods i).surfTemp = some t) ∧
    r.airCount = (s.freshAir z).length ∧ r.surfCount = (s.freshSurface z).length ∧
    if s.freshAir z = [] ∨ s.freshSurface z = [] then
      r = { tget s.zones z with
              state := .blind, values := none, target := none, timer := .none, airCount := (s.freshAir z).length,
              surfCount := (s.freshSurface z).length }
    else
      ∃ v, r.values = some v ∧
        r = stateStep (tget s.active.zones z) s.now v.margin
              { tget s.zones z with
                  values := some v, airCount := (s.freshAir z).length, surfCount := (s.freshSurface z).length } ∧
        v.margin = v.surface - v.dew ∧
        (v.worstDew, v.dew) ∈ s.freshAir z ∧
        (∀ x ∈ s.freshAir z, x.2 ≤ v.dew ∧ (x.2 = v.dew → v.worstDew ≤ x.1)) ∧
        (v.coldestSurf, v.surface) ∈ s.freshSurface z ∧
        (∀ x ∈ s.freshSurface z, v.surface ≤ x.2 ∧ (x.2 = v.surface → v.coldestSurf ≤ x.1))

/-- R48 to R53: the state step of an evaluation, by the escalation and the release class of the margin. -/
def Obligations.StateStepFollowsTheClasses : Prop :=
  ∀ (e : ZoneEntry) (now : Nat) (m : Int) (r : ZoneRecord),
    let esc := if m < e.alarm then .alarm else if m < e.warn then .warn else if m < e.watch then .watch else .clear
    let rel :=
      if m < e.alarm + e.hysteresis then .alarm
      else if m < e.warn + e.hysteresis then .warn
      else if m < e.watch + e.hysteresis then .watch
      else .clear
    (0 ≤ e.hysteresis → RiskClass.severity esc ≤ RiskClass.severity rel) ∧
    (r.state = .blind → stateStep e now m r = { r with state := .risk esc, target := none, timer := .none }) ∧
    ∀ c, r.state = .risk c →
      stateStep e now m r =
        if RiskClass.severity c < RiskClass.severity esc then
          if e.escDelay = 0 then { r with state := .risk esc, target := none, timer := .none }
          else { r with
                   target := some esc,
                   timer := match r.timer with
                     | .escalation t => .escalation t
                     | _ => .escalation (now + e.escDelay * 1000 * ticksPerMs) }
        else if RiskClass.severity rel < RiskClass.severity c then
          if e.relDelay = 0 then { r with state := .risk rel, target := none, timer := .none }
          else { r with
                   target := some rel,
                   timer := match r.timer with
                     | .release t => .release t
                     | _ => .release (now + e.relDelay * 1000 * ticksPerMs) }
        else { r with target := none, timer := .none }

/-- R54, R56: the expiry of a zone's timer takes the zone to its target, with every effect of a state change. Where no
timer with a target is due, only time passes (log entries 3 and 19). A target always differs from the state (R43), which
the premise says. -/
def Obligations.ZoneTimerTakesTheTarget : Prop :=
  ∀ (dt : Nat) (z : ZoneIx) (s : State), s.held = false →
    let r := tget s.zones z
    let now := s.now + dt
    (∀ c, r.target = some c → r.state ≠ .risk c) →
    exec (.zoneTimerExpiry dt z) s = .next
      (match r.target with
      | some c =>
        if isDue now r.timer.expiry then
          let zones :=
            tset s.zones z { r with state := .risk c, target := none, timer := .none, lastChange := now }
          { s with
              now := now, zones := zones, changeSet := s.changeSet ||| (1#16 <<< z.val),
              alert := (List.finRange 16).any (fun y => (tget zones y).state = .risk .alarm),
              outputs := tmap s.outputs (fun o q =>
                if (tget s.active.outputs o).zoneSet.getLsbD z.val then redriven (tget s.active.outputs o) zones q
                else q) }
        else { s with now := now }
      | none => { s with now := now })

/-- Every step keeps the zone records as R43 and R44 give them, and the alert line as R60 gives it. -/
def Obligations.EveryStepKeepsZonesLawful : Prop :=
  ∀ s t : State, s.podsLawful → s.zonesLawful → s.alertLawful → step s = .next t → t.zonesLawful ∧ t.alertLawful

/-! ## Outputs -/

/-- R72: the demand at the lowest margin of the seen mapped zones. R69 to R71, R75, R76, R78: a re-drive decides state,
PARTIAL and pin from the mapped zones, always keeps the latched duty, the period timer and the on-time timer, and forms
the demand only in RUNNING, of a PROPORTIONAL output: in FAILSAFE the demand is frozen. -/
def Obligations.RedriveFormsTheDemandAndKeepsTheCycle : Prop :=
  (∀ (e : OutputEntry) (zones : Vector ZoneRecord 16) (old : Nat) (m : Int),
     e.full < e.onset → m ∈ seenMargins e zones → (∀ n ∈ seenMargins e zones, m ≤ n) →
     (e.onset ≤ m → demandOf e zones old = 0) ∧ (m ≤ e.full → demandOf e zones old = 100) ∧
     (e.full < m → m < e.onset →
       (demandOf e zones old : Int) = (e.onset - m) * 100 / (e.onset - e.full) ∧ demandOf e zones old ≤ 99)) ∧
  (∀ (e : OutputEntry) (zones : Vector ZoneRecord 16) (m : Int),
    m ∈ seenMargins e zones ↔ ∃ z : ZoneIx, e.zoneSet.getLsbD z.val = true ∧ (tget zones z).state ≠ .unused ∧
      (tget zones z).state ≠ .blind ∧ (tget zones z).values.map ZoneValues.margin = some m) ∧
  ∀ (e : OutputEntry) (zones : Vector ZoneRecord 16) (q : OutputRecord),
    let n := redriveRecord e zones q
    n = redriven e zones q ∧ n.latched = q.latched ∧ n.periodTimer = q.periodTimer ∧ n.onTimer = q.onTimer ∧
    (n.state ≠ .running ∨ e.mode = .level → n.demand = q.demand)

/-- R74: an on-time timer that is due ends the on-phase, and turns the pin off where it follows the cycle level. Where it is
not due only time passes (log entry 3), and an output that is IDLE or INHIBITED keeps its pin (log entry 19). -/
def Obligations.OnTimeTimerEndsTheOnPhase : Prop :=
  ∀ (dt : Nat) (o : OutIx) (s : State), s.held = false →
    let e := tget s.active.outputs o
    let r := tget s.outputs o
    exec (.onTimeTimerExpiry dt o) s = .next
      (if isDue (s.now + dt) r.onTimer then
        { s with
            now := s.now + dt,
            outputs := tset s.outputs o
              { r with
                  onTimer := none,
                  pin := if r.state = .running ∨ (r.state = .failsafe ∧ e.failAction = .hold) then false
                         else r.pin } }
      else { s with now := s.now + dt })

/-- R73, R74, R77: a period timer that is due starts the next period, with the demand latched in RUNNING and the duty
kept in FAILSAFE, and drives the pins that follow the cycle level. A period timer runs only in those two states (R68),
which the premise says. Where the timer is not due only time passes, and an expiry taken late starts its period from then
(log entry 3). -/
def Obligations.PeriodTimerStartsTheNextPeriod : Prop :=
  ∀ (dt : Nat) (o : OutIx) (s : State), s.held = false →
    let e := tget s.active.outputs o
    let r := tget s.outputs o
    let now := s.now + dt
    let duty := if r.state = .running then r.demand else r.latched
    (r.periodTimer.isSome → r.state = .running ∨ r.state = .failsafe) →
    exec (.periodTimerExpiry dt o) s = .next
      (if isDue now r.periodTimer then
        { s with
            now := now,
            outputs := tset s.outputs o
              { r with
                  latched := duty, periodTimer := some (now + e.period * 1000 * ticksPerMs),
                  onTimer := if 1 ≤ duty ∧ duty ≤ 99 then some (now + e.period * duty * 10 * ticksPerMs) else none,
                  pin := if r.state = .running ∨ e.failAction = .hold then decide ((1 ≤ duty ∧ duty ≤ 99) ∨ duty = 100)
                         else decide (e.failAction = .on) } }
      else { s with now := now })

/-- R79, R82, R176: INHIBIT drives the pin off, stops the timers and keeps demand, duty and PARTIAL; refused for an
output out of range or of mode OFF. -/
def Obligations.InhibitTurnsTheOutputOff : Prop :=
  ∀ (dt : Nat) (c : Byte) (s : State) (k : SlotNo), ready s k →
    exec (.outputControlInhibit dt c) s = .next
      (match outputOf c.toNat with
      | none => answered s dt k 0x5D [c, 0] [4]
      | some o =>
        if (tget s.active.outputs o).mode = .off then answered s dt k 0x5D [c, 0] [4]
        else
          let r := { tget s.outputs o with state := .inhibited, pin := false, periodTimer := none, onTimer := none }
          { answered s dt k 0x5D [c, 0] (0 :: outputReport (s.now + dt) o r) with outputs := tset s.outputs o r })

/-- R80, R82, R176: RELEASE recomputes an INHIBITED output at once from its mapped zones, with a new period in mode
PROPORTIONAL, and changes no other output. No output of mode OFF is INHIBITED (R68), which the premise says;
`EveryStepKeepsOutputsLawful` keeps it. -/
def Obligations.ReleaseRecomputesTheOutput : Prop :=
  ∀ (dt : Nat) (c : Byte) (s : State) (k : SlotNo), ready s k →
    (∀ o, (tget s.outputs o).state = .inhibited → (tget s.active.outputs o).mode ≠ .off) →
    exec (.outputControlRelease dt c) s = .next
      (match outputOf c.toNat with
      | none => answered s dt k 0x5D [c, 1] [4]
      | some o =>
        let e := tget s.active.outputs o
        let old := tget s.outputs o
        let r := if old.state = .inhibited then recomputed e s.zones (s.now + dt) old.demand old else old
        { answered s dt k 0x5D [c, 1] (0 :: outputReport (s.now + dt) o r) with outputs := tset s.outputs o r })

/-- Every step keeps the outputs as R68 to R78 give them: the duties and timers by state and mode, the pin of a RUNNING
output as its seen zones ask, and the pin of one in FAILSAFE as its fail action asks. -/
def Obligations.EveryStepKeepsOutputsLawful : Prop :=
  ∀ s t : State, s.zonesLawful → s.outputsLawful → step s = .next t → t.outputsLawful

/-! ## The trunk port -/

/-- R88, R89, R139, R140: a mark character on the trunk. In TRANSMITTING it is not seen; in RECEIVING it abandons the
telegram; then, unless it has a framing fault, it is judged: direction up or address 127, no FREE slot, accepted. -/
def Obligations.TrunkMarkCharacterIsJudged : Prop :=
  ∀ (dt : Nat) (c : Byte) (stop : Bool) (s : State), s.held = false →
    exec (.trunkMarkCharacter dt c stop) s = .next
      (let now := s.now + dt
      let base : State := { s with now := now, trunkQuiet := now, trunkPort := .listening }
      let judged (a : State) : State :=
        if stop = false then a
        else if c.getLsbD 7 = true ∨ c.setWidth 7 = 127#7 then a.count .trunkDiscarded
        else
          match a.grant with
          | none => a.count .trunkNoSlot
          | some k =>
            { a with slots := tset a.slots k (overlaid (tget a.slots k) [c]),
                     trunkPort := .receiving k (now + 3 * s.trunkChar) }
      match s.trunkPort with
      | .transmitting _ _ => { s with now := now }
      | .listening => judged base
      | .receiving _ _ => judged (base.count .trunkFraming))

/-- R88 to R91, R141: a mark-0 character on the trunk. In RECEIVING it is stored; an overlong length, a framing fault, a
bad and a good check each end the telegram, a good one in DOWN-QUEUE or, to the own address, at the management agent. -/
def Obligations.TrunkDataCharacterIsStored : Prop :=
  ∀ (dt : Nat) (c : Byte) (stop : Bool) (s : State), s.held = false →
    exec (.trunkDataCharacter dt c stop) s = .next
      (let now := s.now + dt
      match s.trunkPort with
      | .transmitting _ _ => { s with now := now }
      | .listening => { s with now := now, trunkQuiet := now }
      | .receiving k _ =>
        let base : State := { s with now := now, trunkQuiet := now, trunkPort := .listening }
        let t := s.slot k ++ [c]
        let l := (charAt t 2).toNat
        if stop = false then base.count .trunkFraming
        else if t.length < 3 ∨ (l ≤ 32 ∧ t.length < 5 + l) then
          { base with slots := tset s.slots k (overlaid (tget s.slots k) t),
                      trunkPort := .receiving k (now + 3 * s.trunkChar) }
        else if 32 < l then { base with slots := tset s.slots k (overlaid (tget s.slots k) t) }.count .trunkFraming
        else if isGood t = false then { base with slots := tset s.slots k (overlaid (tget s.slots k) t) }.count .trunkCheck
        else if (charAt t 0).setWidth 7 ≠ s.ownAddr then
          { base with slots := tset s.slots k (overlaid (tget s.slots k) t), downQ := s.downQ ++ [k] }.count .trunkGood
        else
          let a := State.takeRequest
            ({ s with now := now, trunkQuiet := now,
                      slots := tset s.slots k (overlaid (tget s.slots k) t) }.count .trunkGood) (charAt t 1)
            ((t.drop 3).take l)
          { a.1 with
              slots := tset a.1.slots k (overlaid (tget a.1.slots k) (telegram (upChar s.ownAddr) (charAt t 1) a.2)),
              trunkPort := .listening,
              upQ := a.1.upQ ++ [k] })

/-- R90, R121, R122, R127, R140: a gap timer that is due abandons its telegram, on the trunk counted TRUNK-FRAMING and on
the field line a miss; a reply window that is due in AWAITING is a miss. Otherwise only time passes (log entry 3), and a
gap timer may be taken late (log entry 15). -/
def Obligations.GapAndWindowExpiriesAbandon : Prop :=
  ∀ (dt : Nat) (s : State), s.held = false →
    exec (.gapTimerExpiry dt .trunk) s = .next
      (match s.trunkPort with
      | .receiving _ gap =>
        if gap ≤ s.now + dt then { s with now := s.now + dt, trunkPort := .listening }.count .trunkFraming
        else { s with now := s.now + dt }
      | _ => { s with now := s.now + dt }) ∧
    exec (.gapTimerExpiry dt .field) s = .next
      (match s.fieldPort with
      | .busy t (.receiving gap k) =>
        if gap ≤ s.now + dt then missed ({ s with now := s.now + dt }.count .fieldBad) t k
        else { s with now := s.now + dt }
      | _ => { s with now := s.now + dt }) ∧
    exec (.replyWindowExpiry dt) s = .next
      (match s.fieldPort with
      | .busy t (.awaiting w k) =>
        if w ≤ s.now + dt then missed { s with now := s.now + dt } t k else { s with now := s.now + dt }
      | _ => { s with now := s.now + dt })

/-- R111, R142, R143: a transmission starts only from LISTENING, after 2 character times of quiet, with the head of
UP-QUEUE, drives the trunk for the telegram's length, and ends with its slot FREE and the quiet interval at 0. The start
is a command of its own (log entry 4); where its conditions do not hold, or the end is not due, only time passes (log
entry 3). In a history that puts no start off (`State.startsTimely`, log entry 3) no time passes beyond the first moment
at which the conditions hold, so the start falls at that moment. While it lasts TRK-DE is asserted and TRK-TXD carries the
telegram's bits (R87, R94), which the model reads whole, not bit by bit (log entry 20). -/
def Obligations.UpwardTransmissionStartsAndEnds : Prop :=
  ∀ (dt : Nat) (s : State), s.held = false →
    exec (.trunkTransmissionStart dt) s = .next
      (match s.trunkPort, s.upQ with
      | .listening, k :: rest =>
        if s.trunkQuiet + 2 * s.trunkChar ≤ s.now + dt then
          { s with
              now := s.now + dt, upQ := rest,
              trunkPort := .transmitting k (s.now + dt + (s.slot k).length * s.trunkChar) }
        else { s with now := s.now + dt }
      | _, _ => { s with now := s.now + dt }) ∧
    exec (.trunkTransmissionEnd dt) s = .next
      (match s.trunkPort with
      | .transmitting _ ends =>
        if ends ≤ s.now + dt then
          { s with now := s.now + dt, trunkQuiet := s.now + dt, trunkPort := .listening }
        else { s with now := s.now + dt }
      | _ => { s with now := s.now + dt }) ∧
    (s.startsTimely dt → s.trunkPort = .listening → s.upQ ≠ [] → 0 < dt →
      s.now + dt ≤ s.trunkQuiet + 2 * s.trunkChar) ∧
    (match s.trunkPort with
    | .transmitting k _ => s.trkDe = true ∧ s.trkTxd = lineBits (s.slot k)
    | _ => s.trkDe = false ∧ s.trkTxd = [])

/-! ## Management requests -/

/-- R112, R139, R143, R140: a request that opens with no FREE slot is lost and counted, one sent over a transmission is
lost, and one that interrupts a telegram is taken as though that telegram had been abandoned before it. -/
def Obligations.RequestNeedsTheLineAndASlot : Prop :=
  ∀ (c : Instr) (dt : Nat) (kind : Byte) (p : List Byte) (s : State),
    requestOf c = some (dt, kind, p) → s.held = false →
    (s.trunkPort = .listening → s.grant = none →
      exec c s = .next ({ s with now := s.now + dt, trunkQuiet := s.now + dt }.count .trunkNoSlot)) ∧
    (∀ k e, s.trunkPort = .transmitting k e → exec c s = .next { s with now := s.now + dt }) ∧
    ∀ k g, s.trunkPort = .receiving k g → exec c s = exec c ({ s with trunkPort := .listening }.count .trunkFraming)

/-- R171: a request of a kind outside 0x50..0x60 is answered BAD-KIND, and one whose length is not the one TABLE 5-10 gives
for its kind BAD-LENGTH, sent as one command or by its characters; R82, R176: a SWEEP-CONTROL or OUTPUT-CONTROL of a command
code that is none of theirs, which comes only by its characters (log entry 13), is answered BAD-FIELD. Nothing else
changes. -/
def Obligations.RefusedRequestChangesNothing : Prop :=
  ∀ (dt : Nat) (kind : Byte) (p : List Byte) (s : State) (k : SlotNo), p.length ≤ 32 → ready s k →
    (∀ c : Instr, requestOf c = some (dt, kind, p) →
      (kind.toNat < 0x50 ∨ 0x60 < kind.toNat → exec c s = .next (answered s dt k kind p [2])) ∧
      (wrongLength kind p.length → exec c s = .next (answered s dt k kind p [3]))) ∧
    (kind.toNat < 0x50 ∨ 0x60 < kind.toNat →
      runAll s (asCharacters s dt kind p) = .next (answered s dt k kind p [2])) ∧
    (wrongLength kind p.length → runAll s (asCharacters s dt kind p) = .next (answered s dt k kind p [3])) ∧
    (∀ code : Byte, 2 < code.toNat →
      runAll s (asCharacters s dt 0x5C [code]) = .next (answered s dt k 0x5C [code] [4])) ∧
    ∀ output code : Byte, 1 < code.toNat →
      runAll s (asCharacters s dt 0x5D [output, code]) = .next (answered s dt k 0x5D [output, code] [4])

/-- A management request does what the characters of its telegram do, in every state of the trunk port (R88 to R91, R101,
R107, R139 to R141; the request as one command is the model's choice, log entry 13). -/
def Obligations.RequestIsItsCharacters : Prop :=
  ∀ (c : Instr) (dt : Nat) (kind : Byte) (p : List Byte) (s : State),
    requestOf c = some (dt, kind, p) → c.wellFormed = true →
    exec c s = runAll s (asCharacters s dt kind p)

/-- R172: IDENTIFY. -/
def Obligations.IdentifyReportsThePart : Prop :=
  ∀ (dt : Nat) (s : State) (k : SlotNo), ready s k →
    exec (.identify dt []) s = .next
      (answered s dt k 0x50 []
        [0, 0x88, 0x0C, 2, 0,
          (if s.addrStrap = 63 then 126 else 64 + s.addrStrap.setWidth 8), s.trate.setWidth 8,
          (match s.selector with | .zero => 0 | .one => 1)])

/-- R59, R113, R173: READ-STATUS reports the part and empties the change set. -/
def Obligations.ReadStatusReportsAndEmptiesTheChangeSet : Prop :=
  ∀ (dt : Nat) (s : State) (k : SlotNo), ready s k →
    exec (.readStatus dt []) s = .next { answered s dt k 0x51 [] (0 :: statusReport s) with changeSet := 0 }

/-- R61, R174: READ-ZONE reports one zone record and changes nothing. -/
def Obligations.ReadZoneReportsTheRecord : Prop :=
  ∀ (dt : Nat) (c : Byte) (s : State) (k : SlotNo), ready s k →
    exec (.readZone dt [c]) s = .next
      (match zoneOf c.toNat with
      | some z => answered s dt k 0x52 [c] (0 :: zoneReport (s.now + dt) z (tget s.zones z))
      | none => answered s dt k 0x52 [c] [4])

/-- R33, R174: READ-POD reports one pod record and changes nothing. -/
def Obligations.ReadPodReportsTheRecord : Prop :=
  ∀ (dt : Nat) (c : Byte) (s : State) (k : SlotNo), ready s k →
    exec (.readPod dt [c]) s = .next
      (match podOf c.toNat with
      | some i => answered s dt k 0x53 [c] (0 :: podReport (s.now + dt) i (s.podEntry i) (tget s.pods i))
      | none => answered s dt k 0x53 [c] [4])

/-- R174: READ-ENTRY reports one entry of the active or the shadow bank and changes nothing. -/
def Obligations.ReadEntryReportsTheEntry : Prop :=
  ∀ (dt : Nat) (sel table index : Byte) (s : State) (k : SlotNo), ready s k →
    let b := if sel = 0 then s.active else s.shadow
    let body : Option (List Byte) :=
      if 1 < sel.toNat then none
      else if table = 0 then (podOf index.toNat).map fun i => podBody (tget b.pods i)
      else if table = 1 then (zoneOf index.toNat).map fun z => zoneBody (tget b.zones z)
      else if table = 2 then (outputOf index.toNat).map fun o => outputBody (tget b.outputs o)
      else if table = 3 then
        if 63 < index.toNat then none
        else some (num1 b.sweepList.length ++
          (List.range 28).flatMap fun j => num1 (podNum (b.sweepList.getD (index.toNat + j) none)))
      else if table = 4 then some (fieldBody b.field b.program)
      else none
    exec (.readEntry dt [sel, table, index]) s = .next
      (match body with
      | some r => answered s dt k 0x54 [sel, table, index] (0 :: r)
      | none => answered s dt k 0x54 [sel, table, index] [4])

/-- R161, R162: an entry write changes the shadow bank's entry, or, refused, nothing. What the bodies hold is
`ConfigurationBodiesClampEachField`. -/
def Obligations.EntryWritesChangeTheShadowBank : Prop :=
  ∀ (dt : Nat) (p : List Byte) (s : State) (k : SlotNo), ready s k →
    (p.length = 19 → exec (.writePodEntry dt p) s = .next
      (match podOf (charAt p 0).toNat, readPodBody p 1 with
      | some i, some (e, c) =>
        (answered s dt k 0x55 p [if c then 1 else 0]).setShadow { s.shadow with pods := tset s.shadow.pods i e }
      | _, _ => answered s dt k 0x55 p [4])) ∧
    (p.length = 14 → exec (.writeZoneEntry dt p) s = .next
      (match zoneOf (charAt p 0).toNat, readZoneBody p 1 with
      | some z, some (e, c) =>
        (answered s dt k 0x56 p [if c then 1 else 0]).setShadow { s.shadow with zones := tset s.shadow.zones z e }
      | _, _ => answered s dt k 0x56 p [4])) ∧
    (p.length = 11 → exec (.writeOutputEntry dt p) s = .next
      (match outputOf (charAt p 0).toNat, readOutputBody p 1 with
      | some o, some (e, c) =>
        (answered s dt k 0x57 p [if c then 1 else 0]).setShadow { s.shadow with outputs := tset s.shadow.outputs o e }
      | _, _ => answered s dt k 0x57 p [4])) ∧
    (p.length = 9 → exec (.writeFieldSettings dt p) s = .next
      (match readFieldBody p with
      | some ((f, g), c) =>
        (answered s dt k 0x59 p [if c then 1 else 0]).setShadow { s.shadow with field := f, program := g }
      | none => answered s dt k 0x59 p [4]))

/-- TABLE 10-2: an enumerated field out of range refuses the body; every numeric field is brought within its range on its
own, and the clamp is reported when it acted on any. -/
def Obligations.ConfigurationBodiesClampEachField : Prop :=
  (∀ (p : List Byte) (i : Nat),
    let signed (n : Nat) : Int := readSigned2 p (i + n)
    if 3 < (charAt p i).toNat ∨ 16 < (charAt p (i + 1)).toNat ∨ 3 < (charAt p (i + 17)).toNat then
      readPodBody p i = none
    else ∃ e c, readPodBody p i = some (e, c) ∧ Role.code e.role = (charAt p i).toNat ∧
      zoneNum e.zone = (charAt p (i + 1)).toNat ∧ flagNum e.substitute + 2 * flagNum e.annotate = (charAt p (i + 17)).toNat ∧
      e.airGain = max (-512) (min 511 (signed 2)) ∧ e.airOffset = max (-500) (min 500 (signed 4)) ∧
      e.rhGain = max (-512) (min 511 (signed 6)) ∧ e.rhOffset = max (-500) (min 500 (signed 8)) ∧
      e.surfGain = max (-512) (min 511 (signed 10)) ∧ e.surfOffset = max (-500) (min 500 (signed 12)) ∧
      e.weight = min 4 (charAt p (i + 14)).toNat ∧ e.staleLimit = max 2 (min 3600 (readNum2 p (i + 15))) ∧
      (c = false ↔ e.airGain = signed 2 ∧ e.airOffset = signed 4 ∧ e.rhGain = signed 6 ∧ e.rhOffset = signed 8 ∧
        e.surfGain = signed 10 ∧ e.surfOffset = signed 12 ∧ e.weight = (charAt p (i + 14)).toNat ∧
        e.staleLimit = readNum2 p (i + 15))) ∧
  (∀ (p : List Byte) (i : Nat),
    if 1 < (charAt p i).toNat then readZoneBody p i = none
    else ∃ e c, readZoneBody p i = some (e, c) ∧ flagNum e.enabled = (charAt p i).toNat ∧
      e.watch = min 3000 (readNum2 p (i + 1)) ∧ e.warn = min 3000 (readNum2 p (i + 3)) ∧
      e.alarm = min 3000 (readNum2 p (i + 5)) ∧ e.hysteresis = min 500 (readNum2 p (i + 7)) ∧
      e.escDelay = min 600 (readNum2 p (i + 9)) ∧ e.relDelay = min 3600 (readNum2 p (i + 11)) ∧
      (c = false ↔ e.watch = readNum2 p (i + 1) ∧ e.warn = readNum2 p (i + 3) ∧ e.alarm = readNum2 p (i + 5) ∧
        e.hysteresis = readNum2 p (i + 7) ∧ e.escDelay = readNum2 p (i + 9) ∧ e.relDelay = readNum2 p (i + 11))) ∧
  (∀ (p : List Byte) (i : Nat),
    if 2 < (charAt p i).toNat ∨ (charAt p (i + 3)).toNat < 3 ∨ 5 < (charAt p (i + 3)).toNat ∨
        2 < (charAt p (i + 9)).toNat then
      readOutputBody p i = none
    else ∃ e c, readOutputBody p i = some (e, c) ∧ OutputMode.code e.mode = (charAt p i).toNat ∧
      e.zoneSet.toNat = readNum2 p (i + 1) ∧ OutputLevel.code e.level = (charAt p (i + 3)).toNat ∧
      FailAction.code e.failAction = (charAt p (i + 9)).toNat ∧
      e.onset = max (-1000) (min 3000 (readSigned2 p (i + 4))) ∧
      e.full = max (-1000) (min 3000 (readSigned2 p (i + 6))) ∧ e.period = max 1 (min 60 (charAt p (i + 8)).toNat) ∧
      (c = false ↔ e.onset = readSigned2 p (i + 4) ∧ e.full = readSigned2 p (i + 6) ∧
        e.period = (charAt p (i + 8)).toNat)) ∧
  ∀ p : List Byte,
    if 3 < (charAt p 0).toNat ∨ 2 < (charAt p 3).toNat then readFieldBody p = none
    else ∃ f g c, readFieldBody p = some ((f, g), c) ∧ BitRate.code f.rate = (charAt p 0).toNat ∧
      StartMode.code g.startMode = (charAt p 3).toNat ∧ f.window = max 20 (min 500 (readNum2 p 1)) ∧
      g.rounds = max 1 (charAt p 4).toNat ∧ g.startDelay = min 600 (readNum2 p 5) ∧
      g.pace = max 50 (min 10000 (readNum2 p 7)) ∧
      (c = false ↔ f.window = readNum2 p 1 ∧ g.rounds = (charAt p 4).toNat ∧ g.startDelay = readNum2 p 5 ∧
        g.pace = readNum2 p 7)

/-- TABLE 5-10, R102: an entry within its ranges, sent as READ-ENTRY sends it, is read back by a write as the same entry,
with no clamp. -/
def Obligations.ConfigurationBodiesReadBack : Prop :=
  (∀ e : PodEntry, podEntryRanges e = true → readPodBody (podBody e) 0 = some (e, false)) ∧
  (∀ e : ZoneEntry, zoneEntryRanges e = true → readZoneBody (zoneBody e) 0 = some (e, false)) ∧
  (∀ e : OutputEntry, outputEntryRanges e = true → readOutputBody (outputBody e) 0 = some (e, false)) ∧
  ∀ (f : FieldSettings) (g : SweepProgram), 20 ≤ f.window → f.window ≤ 500 → 1 ≤ g.rounds → g.rounds ≤ 255 →
    g.startDelay ≤ 600 → 50 ≤ g.pace → g.pace ≤ 10000 → readFieldBody (fieldBody f g) = some ((f, g), false)

/-- R163: a sweep list write, place by place. -/
def Obligations.SweepListWriteFillsPlaces : Prop :=
  ∀ (dt : Nat) (first len : Byte) (addrs : List Byte) (s : State) (k : SlotNo),
    addrs.length ≤ 28 → ready s k →
    if 64 < len.toNat ∨ len.toNat < first.toNat ∨ 64 < first.toNat + addrs.length ∨
        (∃ a ∈ addrs, a.toNat = 0 ∨ 63 < a.toNat) then
      exec (.writeSweepList dt (first :: len :: addrs)) s = .next (answered s dt k 0x58 (first :: len :: addrs) [4])
    else
      ∃ l : List (Option PodIx),
        exec (.writeSweepList dt (first :: len :: addrs)) s = .next
          ((answered s dt k 0x58 (first :: len :: addrs) [0]).setShadow { s.shadow with sweepList := l }) ∧
        l.length = len.toNat ∧
        ∀ j, j < len.toNat →
          podNum (l.getD j none) =
            if first.toNat ≤ j ∧ j < first.toNat + addrs.length then (charAt addrs (j - first.toNat)).toNat
            else podNum (s.shadow.sweepList.getD j none)

/-- R164: COPY-ACTIVE makes both banks the active one, and changes nothing else. -/
def Obligations.CopyActiveMakesTheBanksEqual : Prop :=
  ∀ (dt : Nat) (s : State) (k : SlotNo), ready s k →
    exec (.copyActive dt []) s = .next { answered s dt k 0x5A [] [0] with bank0 := s.active, bank1 := s.active }

/-- R165, R166: a SWAP that fails validation is answered INVALID with the reason code and the index of the first check of
TABLE 10-4, in its order, that fails, and changes nothing; validation passes where no check fails: exactly where every
enabled zone, every output that is not OFF and every place of the sweep list meets the conditions of the table. -/
def Obligations.FailedSwapChangesNothing : Prop :=
  ∀ (dt : Nat) (s : State) (k : SlotNo), ready s k →
    (∀ reason index : Nat, (swapChecks s.shadow).find? (fun c => c.2.2) = some (reason, index, true) →
      exec (.swap dt []) s = .next
        (answered s dt k 0x5B [] [6, BitVec.ofNat 8 reason, BitVec.ofNat 8 index])) ∧
    (validate s.shadow = none ↔ ∀ c ∈ swapChecks s.shadow, c.2.2 = false) ∧
    (validate s.shadow = none ↔
      (∀ z, (tget s.shadow.zones z).enabled = true →
        let air := ((List.finRange 63).filter fun i =>
          (tget s.shadow.pods i).zone = some z ∧ ((tget s.shadow.pods i).role = .air ∨ (tget s.shadow.pods i).role = .dual)).length
        let surf := ((List.finRange 63).filter fun i =>
          (tget s.shadow.pods i).zone = some z ∧
            ((tget s.shadow.pods i).role = .surface ∨ (tget s.shadow.pods i).role = .dual)).length
        1 ≤ air ∧ air ≤ 8 ∧ 1 ≤ surf ∧ surf ≤ 8 ∧ (tget s.shadow.zones z).alarm < (tget s.shadow.zones z).warn ∧
        (tget s.shadow.zones z).warn < (tget s.shadow.zones z).watch) ∧
      (∀ o, (tget s.shadow.outputs o).mode ≠ .off →
        (tget s.shadow.outputs o).zoneSet ≠ 0 ∧
        (∀ z : ZoneIx, (tget s.shadow.outputs o).zoneSet.getLsbD z.val = true → (tget s.shadow.zones z).enabled = true) ∧
        ((tget s.shadow.outputs o).mode = .proportional →
          (tget s.shadow.outputs o).full < (tget s.shadow.outputs o).onset)) ∧
      ∀ a ∈ s.shadow.sweepList, ∃ i, a = some i ∧ (tget s.shadow.pods i).role ≠ .absent)

/-- R167, R168: a SWAP that passes flips the selector, moves no entry, and acts on the pods (R35 to R38), the zones (R63),
the outputs (R83) and the sweep (R156), in that order, and on nothing else. -/
def Obligations.SwapFlipsAndEveryBlockActs : Prop :=
  ∀ (dt : Nat) (s : State) (k : SlotNo), ready s k → s.alertLawful → validate s.shadow = none →
    let now := s.now + dt
    ∃ t, exec (.swap dt []) s = .next t ∧
      t.selector = (match s.selector with | .zero => .one | .one => .zero) ∧
      t = { answered s dt k 0x5B [] [0, (match s.selector with | .zero => 1 | .one => 0)] with
              selector := t.selector, pods := t.pods, zones := t.zones, changeSet := t.changeSet, alert := t.alert,
              outputs := t.outputs, sweep := t.sweep } ∧
      (∀ i, tget t.pods i = swappedPod (tget s.active.pods i) (tget s.shadow.pods i) now (tget s.pods i)) ∧
      (∀ z, let r := swappedZone { s with now := now, selector := t.selector, pods := t.pods } z (tget s.zones z)
        tget t.zones z = (if r.state = (tget s.zones z).state then r else { r with lastChange := now }) ∧
        t.changeSet.getLsbD z.val = (s.changeSet.getLsbD z.val || r.state ≠ (tget s.zones z).state)) ∧
      t.alert = anyAlarm t.zones ∧
      (∀ o, let e := tget s.shadow.outputs o
        let r := tget s.outputs o
        tget t.outputs o =
          if e.mode = .off then
            { state := .idle, pin := false, demand := 0, latched := 0, periodTimer := none, onTimer := none,
              isPartial := false }
          else if r.state = .inhibited then r
          else recomputed e t.zones now (if (tget s.active.outputs o).mode = .proportional then r.demand else 0) r) ∧
      t.sweep = swappedSweep s.shadow.sweepList s.sweep

/-! ## The sweep -/

/-- R149, R150, R176: START, STOP and RESUME, in every state of the sweep, with their responses. -/
def Obligations.SweepControlMovesTheSweep : Prop :=
  ∀ (dt : Nat) (s : State) (k : SlotNo), ready s k →
    exec (.sweepControlStart dt) s = .next
      (if s.active.program.startMode = .off ∨ s.active.sweepList = [] then answered s dt k 0x5C [0] [4]
      else
        let w := startedSweep s.active (s.now + dt)
        { answered s dt k 0x5C [0] [0, BitVec.ofNat 8 (SweepState.code w.state)] with sweep := w }) ∧
    exec (.sweepControlStop dt) s = .next
      (if s.sweep.state = .delaying ∨ s.sweep.state = .running then
        { answered s dt k 0x5C [1] [0, 3] with
            sweep := { s.sweep with state := .held, delayTimer := none, paceTimer := none, due := false } }
      else answered s dt k 0x5C [1] [0, BitVec.ofNat 8 (SweepState.code s.sweep.state)]) ∧
    exec (.sweepControlResume dt) s = .next
      (if s.sweep.state = .held then
        { answered s dt k 0x5C [2] [0, 2] with
            sweep := { s.sweep with state := .running, delayTimer := none, paceTimer := none, due := true } }
      else answered s dt k 0x5C [2] [4])

/-- R151, R153: a delay timer due in DELAYING enters RUNNING with due set; a pace timer due in RUNNING sets due. Where the
timer is not due, or the sweep is in another state, only time passes (log entry 3). -/
def Obligations.SweepTimersSetDue : Prop :=
  ∀ (dt : Nat) (s : State), s.held = false →
    exec (.delayTimerExpiry dt) s = .next
      (if s.sweep.state = .delaying ∧ isDue (s.now + dt) s.sweep.delayTimer = true then
        { s with
            now := s.now + dt,
            sweep := { s.sweep with state := .running, delayTimer := none, paceTimer := none, due := true } }
      else { s with now := s.now + dt }) ∧
    exec (.paceTimerExpiry dt) s = .next
      (if s.sweep.state = .running ∧ isDue (s.now + dt) s.sweep.paceTimer = true then
        { s with now := s.now + dt, sweep := { s.sweep with paceTimer := none, due := true } }
      else { s with now := s.now + dt })

/-- Every step keeps the sweep record as R148 gives it for the active list. -/
def Obligations.EveryStepKeepsSweepLawful : Prop :=
  ∀ s t : State, s.banksLawful → s.sweepLawful → step s = .next t → t.sweepLawful

/-! ## Banks and the settings store -/

/-- R177, R182: STORE is BUSY while WRITING; otherwise it snapshots the active bank, marks the image invalid, starts the
timer, and answers OK. What the other cells hold from now on is open (log entry 10). -/
def Obligations.StoreBeginsWriting : Prop :=
  ∀ (dt : Nat) (s : State) (k : SlotNo), ready s k →
    (s.storeState = .writing → exec (.store dt []) s = .next (answered s dt k 0x5E [] [5])) ∧
    (s.storeState ≠ .writing → ∃ cells : Bank,
      exec (.store dt []) s = .next
        { answered s dt k 0x5E [] [0] with
            snapshot := some s.active, image := { bank := cells, checkA := 255, checkB := 255 },
            freeCount := s.freeCount + 1, storeTimer := some (s.now + dt + 800 * ticksPerMs),
            storeState := .writing } ∧
      imageValid { bank := cells, checkA := 255, checkB := 255 } = false)

/-- R183: a store timer due while WRITING ends the write DONE, with a valid image of the snapshot, or FAILED, with the
image as it was; which of the two, the command says (log entry 16). Where it is not due only time passes (log entry 3). -/
def Obligations.StoreEndsDoneOrFailed : Prop :=
  ∀ (dt : Nat) (m : Bool) (s : State), s.held = false → s.storeLawful →
    if s.storeState = .writing ∧ isDue (s.now + dt) s.storeTimer = true then
      if m then
        ∃ b im, s.snapshot = some b ∧ im.bank = b ∧ imageValid im = true ∧
          exec (.storeTimerExpiry dt m) s = .next
            { s with now := s.now + dt, image := im, storeState := .done, imageBad := false, snapshot := none,
                     storeTimer := none }
      else
        exec (.storeTimerExpiry dt m) s = .next
          { s with now := s.now + dt, storeState := .failed, snapshot := none, storeTimer := none } ∧
        imageValid s.image = false
    else exec (.storeTimerExpiry dt m) s = .next { s with now := s.now + dt }

/-- Every step keeps both banks within their ranges, the active bank passing every check of TABLE 10-4, the image of a
write that ended DONE fit to be active, and the store's fields as R182 to R184 give them. -/
def Obligations.EveryStepKeepsBanksLawful : Prop :=
  ∀ s t : State, s.banksLawful → s.storeLawful → step s = .next t → t.banksLawful ∧ t.storeLawful

/-! ## Counters and field restart -/

/-- R178: READ-COUNTERS reports the fifteen counters with its own count, and clears them after where it is told to. -/
def Obligations.ReadCountersReportsThenClears : Prop :=
  ∀ (dt : Nat) (c : Byte) (s : State) (k : SlotNo), ready s k →
    let counted := tset s.counters 0 (if tget s.counters 0 < 65535 then tget s.counters 0 + 1 else tget s.counters 0)
    let t := answered s dt k 0x5F [c]
      (0 :: (List.finRange 15).flatMap fun i =>
        [BitVec.ofNat 8 (tget counted i), BitVec.ofNat 8 (tget counted i / 256)])
    exec (.readCounters dt [c]) s = .next
      (if c = 0 then t else if c = 1 then { t with counters := tconst 15 0 } else answered s dt k 0x5F [c] [4])

/-- R179, TABLE 11-2: FIELD-RESTART, block by block; everything else is kept. That the sweep mode is kept, and
that the output timers run on (R85, R179 against R180), are the model's choices (log entries 12 and 26). -/
def Obligations.FieldRestartClearsStanding : Prop :=
  ∀ (dt : Nat) (s : State) (k : SlotNo), ready s k → s.zonesLawful → s.alertLawful → s.outputsLawful →
    let now := s.now + dt
    ∃ t, exec (.fieldRestart dt []) s = .next t ∧
      t = { answered s dt k 0x60 [] [0] with
              fieldPort := t.fieldPort, pods := t.pods, zones := t.zones, changeSet := t.changeSet, alert := t.alert,
              outputs := t.outputs, sweep := t.sweep } ∧
      t.fieldPort =
        (match s.fieldPort with
        | .idle => .idle
        | .busy q (.sending copy ends _) => .busy { q with outcome := some .abandoned } (.sending copy ends none)
        | .busy q (.awaiting _ _) =>
          .busy { q with outcome := some .abandoned } (.guarding (now + 4 * BitRate.charTime q.rate))
        | .busy q (.receiving _ _) =>
          .busy { q with outcome := some .abandoned } (.guarding (now + 4 * BitRate.charTime q.rate))
        | .busy q (.guarding e) => .busy q (.guarding e)) ∧
      t.pods = tconst 63 neverPod ∧
      (∀ z, let r := tget s.zones z
        if (tget s.active.zones z).enabled = true then
          tget t.zones z =
            { state := .blind, values := none, airCount := 0, surfCount := 0, target := none, timer := .none,
              lastChange := if r.state = .blind then r.lastChange else now } ∧
          t.changeSet.getLsbD z.val = (s.changeSet.getLsbD z.val || r.state ≠ .blind)
        else tget t.zones z = r ∧ t.changeSet.getLsbD z.val = s.changeSet.getLsbD z.val) ∧
      t.alert = false ∧
      (∀ o, let r := tget s.outputs o
        tget t.outputs o =
          if r.state = .idle ∨ r.state = .inhibited then r
          else { r with
                   state := .failsafe, isPartial := false,
                   pin := match (tget s.active.outputs o).failAction with
                     | .off => false
                     | .on => true
                     | .hold => r.pin }) ∧
      t.sweep =
        { state := .idle, mode := s.sweep.mode, position := 0, rounds := 0, delayTimer := none, paceTimer := none,
          due := false, done := false, coverage := tconst 63 false, covered := false }

/-! ## The field port -/

/-- R117 to R119, R152: a transaction starts from IDLE after 2 character times of quiet, with the head of DOWN-QUEUE, or
else with a sweep poll that is due and 3 FREE slots; otherwise only time passes (log entry 3). The start is a command of
its own (log entry 4), and a list place without an entry starts no poll (log entry 19). In a history that puts no start off
(`State.startsTimely`, log entry 3) no time passes beyond the first moment at which the conditions hold. While the port is
in SENDING FLD-DE is asserted and FLD-TXD carries the bits of its own copy (R87, R94, R115, R120; log entry 20). -/
def Obligations.FieldTransactionStartArbitrates : Prop :=
  ∀ (dt : Nat) (s : State), s.held = false →
    let now := s.now + dt
    let char := BitRate.charTime s.active.field.rate
    exec (.fieldTransactionStart dt) s = .next
      (if s.fieldPort = .idle ∧ s.fieldQuiet + 2 * char ≤ now then
        match s.downQ with
        | k :: rest =>
          { s with
              now := now, downQ := rest,
              fieldPort := .busy (newTransaction s .trunk (s.slot k))
                (.sending (s.slot k) (now + (s.slot k).length * char) (some k)) }
        | [] =>
          match s.grant, s.active.sweepList.getD s.sweep.position none with
          | some k, some i =>
            if s.sweep.due = true ∧ 3 ≤ s.freeSlots.length then
              let poll := telegram (downChar (BitVec.ofNat 7 (i.val + 1))) 0x21 []
              let w := s.sweep
              let ended := w.position + 1 = s.active.sweepList.length
              let last := ended ∧ w.mode = .rounds ∧ w.rounds - 1 = 0
              { s with
                  now := now, slots := tset s.slots k (overlaid (tget s.slots k) poll),
                  fieldPort := .busy (newTransaction s .sweep poll) (.sending poll (now + 5 * char) (some k)),
                  sweep := { w with
                    due := false, position := if ended then 0 else w.position + 1,
                    rounds := if ended ∧ w.mode = .rounds then w.rounds - 1 else w.rounds,
                    state := if last then .idle else w.state, done := w.done || last,
                    paceTimer := if last then w.paceTimer
                                 else some (now + s.active.program.pace * ticksPerMs) } }
            else { s with now := now }
          | _, _ => { s with now := now }
      else { s with now := now }) ∧
    (s.startsTimely dt → s.fieldPort = .idle →
      (s.downQ ≠ [] ∨ (s.sweep.due = true ∧ s.active.sweepList.getD s.sweep.position none ≠ none ∧
        3 ≤ s.freeSlots.length)) →
      0 < dt → now ≤ s.fieldQuiet + 2 * char) ∧
    (match s.fieldPort with
    | .busy _ (.sending copy _ _) => s.fldDe = true ∧ s.fldTxd = lineBits copy
    | _ => s.fldDe = false ∧ s.fldTxd = [])

/-- R120, R134: the last stop bit of a field send. Before it, and outside SENDING, only time passes
(log entry 3). A broadcast's slot is FREE from then on, through the guard (R110; log entry 25). -/
def Obligations.FieldSendingEndAwaitsOrGuards : Prop :=
  ∀ (dt : Nat) (s : State), s.held = false →
    let now := s.now + dt
    exec (.fieldSendingEnd dt) s = .next
      (match s.fieldPort with
      | .busy t (.sending _ ends slot) =>
        if ends ≤ now then
          match slot with
          | some k =>
            if t.expectsReply then
              { s with
                  now := now, fieldQuiet := now,
                  fieldPort := .busy t (.awaiting (now + t.window * ticksPerMs) k) }.count .fieldPolls
            else
              { s with
                  now := now, fieldQuiet := now,
                  fieldPort := .busy { t with outcome := some .sent }
                    (.guarding (now + 2 * BitRate.charTime t.rate)) }
          | none =>
            { s with
                now := now, fieldQuiet := now,
                fieldPort := .busy { t with outcome := some .abandoned }
                  (.guarding (now + 4 * BitRate.charTime t.rate)) }
        else { s with now := now }
      | _ => { s with now := now })

/-- R121, R122, R129, R130, TABLE 7-4: a mark character on the field line, by the port's state. -/
def Obligations.FieldMarkCharacterIsJudged : Prop :=
  ∀ (dt : Nat) (c : Byte) (stop : Bool) (s : State), s.held = false →
    exec (.fieldMarkCharacter dt c stop) s = .next
      (let now := s.now + dt
      let base : State := { s with now := now, fieldQuiet := now }
      match s.fieldPort with
      | .idle => if stop then base.count .fieldUnsolicited else base
      | .busy _ (.sending _ _ _) => { s with now := now }
      | .busy t (.awaiting _ k) =>
        if stop = true ∧ c.getLsbD 7 = true ∧ c.setWidth 7 = t.target then
          { base with
              slots := tset s.slots k (overlaid (tget s.slots k) [c]),
              fieldPort := .busy t (.receiving (now + 3 * BitRate.charTime t.rate) k) }
        else base
      | .busy t (.receiving _ k) =>
        let a := missed (base.count .fieldBad) t k
        if stop then a.count .fieldUnsolicited else a
      | .busy t (.guarding _) =>
        let n := match t.outcome with | some .reply => 2 | some .sent => 2 | _ => 4
        let a : State := { base with fieldPort := .busy t (.guarding (now + n * BitRate.charTime t.rate)) }
        if stop then a.count .fieldUnsolicited else a)

/-- R122 to R126, R129, R130, TABLE 7-3, TABLE 7-4: a mark-0 character on the field line, by the port's state. A reply's
slot leaves FIELD-TXN in the event that disposes of it, and not after the guard (R110 against R109; log entry 25). -/
def Obligations.FieldDataCharacterIsStored : Prop :=
  ∀ (dt : Nat) (c : Byte) (stop : Bool) (s : State), s.held = false →
    exec (.fieldDataCharacter dt c stop) s = .next
      (let now := s.now + dt
      let base : State := { s with now := now, fieldQuiet := now }
      match s.fieldPort with
      | .idle => base
      | .busy _ (.sending _ _ _) => { s with now := now }
      | .busy _ (.awaiting _ _) => base
      | .busy t (.receiving _ k) =>
        let u := s.slot k ++ [c]
        let l := (charAt u 2).toNat
        if stop = false then missed (base.count .fieldBad) t k
        else
          let b : State := { base with slots := tset s.slots k (overlaid (tget s.slots k) u) }
          if u.length < 3 ∨ (l ≤ 32 ∧ u.length < 5 + l) then
            { b with fieldPort := .busy t (.receiving (now + 3 * BitRate.charTime t.rate) k) }
          else if 32 < l ∨ isGood u = false then missed (b.count .fieldBad) t k
          else disposed b t k u
      | .busy t (.guarding _) =>
        let n := match t.outcome with | some .reply => 2 | some .sent => 2 | _ => 4
        { base with fieldPort := .busy t (.guarding (now + n * BitRate.charTime t.rate)) })

/-- R129: a guard timer that is due discards the transaction record and leaves the port IDLE. Where it is not due, or the
port is not in GUARD, only time passes (log entry 3). -/
def Obligations.GuardTimerEndsTheTransaction : Prop :=
  ∀ (dt : Nat) (s : State), s.held = false →
    exec (.guardTimerExpiry dt) s = .next
      (match s.fieldPort with
      | .busy _ (.guarding e) =>
        if e ≤ s.now + dt then { s with now := s.now + dt, fieldPort := .idle } else { s with now := s.now + dt }
      | _ => { s with now := s.now + dt })

/-! ## Slots, telegrams and counters -/

/-- R104: each slot is in exactly one place, the three single places hold at most one each, and every step keeps it so. -/
def Obligations.EveryStepConservesSlots : Prop :=
  (∀ s : State, s.slotsConserved → ∀ k, (s.freeSlots ++ s.occupied).count k = 1) ∧
  (∀ s : State, s.trunkPort.rxSlot.toList.length ≤ 1 ∧ s.fieldPort.txnSlot.toList.length ≤ 1 ∧
    s.trunkPort.txSlot.toList.length ≤ 1) ∧
  ∀ s t : State, s.slotsConserved → step s = .next t → t.slotsConserved

/-- R91, R93, R95, R103, R107: every step keeps every slot at its 37 positions and every queued slot a whole good telegram
bound the right way. R91, R92: the check pair is the running sums A and B modulo 255, a telegram that the part builds ends in
it, and a telegram is good exactly where positions 3 + L and 4 + L hold the pair over positions 0 to 2 + L, so none with a
check character of 255 is. -/
def Obligations.EveryStepKeepsTelegramsWhole : Prop :=
  checkPair [] = (0, 0) ∧
  (∀ (cs : List Byte) (c : Byte),
    let a := ((checkPair cs).1 + c.toNat) % 255
    checkPair (cs ++ [c]) = (a, ((checkPair cs).2 + a) % 255)) ∧
  (∀ (addr kind : Byte) (p : List Byte),
    let body := addr :: kind :: BitVec.ofNat 8 p.length :: p
    telegram addr kind p = body ++ [BitVec.ofNat 8 (checkPair body).1, BitVec.ofNat 8 (checkPair body).2]) ∧
  (∀ t : List Byte,
    let l := (charAt t 2).toNat
    let sums := checkPair (t.take (3 + l))
    (isGood t = true ↔ sums.1 = (charAt t (3 + l)).toNat ∧ sums.2 = (charAt t (4 + l)).toNat) ∧
    (charAt t (3 + l) = 255 ∨ charAt t (4 + l) = 255 → isGood t = false)) ∧
  ∀ s t : State, s.slotsConserved → s.podsLawful → s.telegramsLawful → step s = .next t → t.telegramsLawful

/-- Every step keeps every counter at most 65535, no stored moment in the future, and a transaction's outcome as the
port's state says. -/
def Obligations.EveryStepKeepsCountersTimeAndOutcome : Prop :=
  ∀ s t : State, s.countersLawful → s.timeLawful → s.txnLawful = true → step s = .next t →
    t.countersLawful ∧ t.timeLawful ∧ t.txnLawful = true
end

