-- ==== Sys2Proof/Laws/Tables.lean ====
section
/-! SUPPORT. Reading and writing tables of a fixed size. -/

namespace Sys2Proof

variable {α β : Type} {n : Nat}

@[simp] theorem tget_tset_same (v : Vector α n) (i : Fin n) (x : α) : tget (tset v i x) i = x := by
  simp [tget, tset, Vector.get_eq_getElem]

theorem tget_tset_ne (v : Vector α n) {i j : Fin n} (x : α) (h : i ≠ j) : tget (tset v i x) j = tget v j := by
  have h' : i.val ≠ j.val := fun e => h (Fin.ext e)
  simp [tget, tset, Vector.get_eq_getElem, h']

theorem tget_tset (v : Vector α n) (i j : Fin n) (x : α) :
    tget (tset v i x) j = if i = j then x else tget v j := by
  split
  · next h => subst h; simp
  · next h => exact tget_tset_ne v x h

@[simp] theorem tget_tmap (v : Vector α n) (f : Fin n → α → β) (i : Fin n) : tget (tmap v f) i = f i (tget v i) := by
  simp [tget, tmap, Vector.get_eq_getElem]

@[simp] theorem tget_tconst (x : α) (i : Fin n) : tget (tconst n x) i = x := by
  simp [tget, tconst, Vector.get_eq_getElem]

/-- Two tables with the same entries are the same table. -/
theorem table_ext {v w : Vector α n} (h : ∀ i, tget v i = tget w i) : v = w := by
  apply Vector.ext
  intro i hi
  have := h ⟨i, hi⟩
  simpa [tget, Vector.get_eq_getElem] using this

@[simp] theorem tset_tset (v : Vector α n) (i : Fin n) (x y : α) : tset (tset v i x) i y = tset v i y := by
  apply table_ext
  intro j
  simp only [tget_tset]
  split <;> rfl

@[simp] theorem tset_tget (v : Vector α n) (i : Fin n) : tset v i (tget v i) = v := by
  apply table_ext
  intro j
  rw [tget_tset]
  split
  · next h => subst h; rfl
  · rfl

/-- An entry holds in every row of a written table when it holds in the row written and held in the others. -/
theorem tset_forall {P : Fin n → α → Prop} {v : Vector α n} {i : Fin n} {x : α}
    (hx : P i x) (hv : ∀ j, P j (tget v j)) (j : Fin n) : P j (tget (tset v i x) j) := by
  rw [tget_tset]
  split
  · next h => subst h; exact hx
  · exact hv j

end Sys2Proof
end

