-- ==== Sys2Proof/Laws/State.lean ====
section
/-! SUPPORT. What each named update leaves in each field, so that no proof unfolds a record update. -/

namespace Sys2Proof.Machine

variable (s : State)


/-! ### elapse -/

@[simp] theorem elapse_now (dt : Nat) : (s.elapse dt).now = s.now + dt := rfl
@[simp] theorem elapse_held (dt : Nat) : (s.elapse dt).held = s.held := rfl
@[simp] theorem elapse_trate (dt : Nat) : (s.elapse dt).trate = s.trate := rfl
@[simp] theorem elapse_addrStrap (dt : Nat) : (s.elapse dt).addrStrap = s.addrStrap := rfl
@[simp] theorem elapse_trunkPort (dt : Nat) : (s.elapse dt).trunkPort = s.trunkPort := rfl
@[simp] theorem elapse_trunkQuiet (dt : Nat) : (s.elapse dt).trunkQuiet = s.trunkQuiet := rfl
@[simp] theorem elapse_slots (dt : Nat) : (s.elapse dt).slots = s.slots := rfl
@[simp] theorem elapse_downQ (dt : Nat) : (s.elapse dt).downQ = s.downQ := rfl
@[simp] theorem elapse_upQ (dt : Nat) : (s.elapse dt).upQ = s.upQ := rfl
@[simp] theorem elapse_fieldPort (dt : Nat) : (s.elapse dt).fieldPort = s.fieldPort := rfl
@[simp] theorem elapse_fieldQuiet (dt : Nat) : (s.elapse dt).fieldQuiet = s.fieldQuiet := rfl
@[simp] theorem elapse_pods (dt : Nat) : (s.elapse dt).pods = s.pods := rfl
@[simp] theorem elapse_zones (dt : Nat) : (s.elapse dt).zones = s.zones := rfl
@[simp] theorem elapse_changeSet (dt : Nat) : (s.elapse dt).changeSet = s.changeSet := rfl
@[simp] theorem elapse_alert (dt : Nat) : (s.elapse dt).alert = s.alert := rfl
@[simp] theorem elapse_outputs (dt : Nat) : (s.elapse dt).outputs = s.outputs := rfl
@[simp] theorem elapse_sweep (dt : Nat) : (s.elapse dt).sweep = s.sweep := rfl
@[simp] theorem elapse_bank0 (dt : Nat) : (s.elapse dt).bank0 = s.bank0 := rfl
@[simp] theorem elapse_bank1 (dt : Nat) : (s.elapse dt).bank1 = s.bank1 := rfl
@[simp] theorem elapse_selector (dt : Nat) : (s.elapse dt).selector = s.selector := rfl
@[simp] theorem elapse_image (dt : Nat) : (s.elapse dt).image = s.image := rfl
@[simp] theorem elapse_storeState (dt : Nat) : (s.elapse dt).storeState = s.storeState := rfl
@[simp] theorem elapse_imageBad (dt : Nat) : (s.elapse dt).imageBad = s.imageBad := rfl
@[simp] theorem elapse_snapshot (dt : Nat) : (s.elapse dt).snapshot = s.snapshot := rfl
@[simp] theorem elapse_storeTimer (dt : Nat) : (s.elapse dt).storeTimer = s.storeTimer := rfl
@[simp] theorem elapse_counters (dt : Nat) : (s.elapse dt).counters = s.counters := rfl
@[simp] theorem elapse_freeCount (dt : Nat) : (s.elapse dt).freeCount = s.freeCount := rfl
@[simp] theorem elapse_pending (dt : Nat) : (s.elapse dt).pending = s.pending := rfl

/-! ### count -/

@[simp] theorem count_now (c : Counter) : (s.count c).now = s.now := rfl
@[simp] theorem count_held (c : Counter) : (s.count c).held = s.held := rfl
@[simp] theorem count_trate (c : Counter) : (s.count c).trate = s.trate := rfl
@[simp] theorem count_addrStrap (c : Counter) : (s.count c).addrStrap = s.addrStrap := rfl
@[simp] theorem count_trunkPort (c : Counter) : (s.count c).trunkPort = s.trunkPort := rfl
@[simp] theorem count_trunkQuiet (c : Counter) : (s.count c).trunkQuiet = s.trunkQuiet := rfl
@[simp] theorem count_slots (c : Counter) : (s.count c).slots = s.slots := rfl
@[simp] theorem count_downQ (c : Counter) : (s.count c).downQ = s.downQ := rfl
@[simp] theorem count_upQ (c : Counter) : (s.count c).upQ = s.upQ := rfl
@[simp] theorem count_fieldPort (c : Counter) : (s.count c).fieldPort = s.fieldPort := rfl
@[simp] theorem count_fieldQuiet (c : Counter) : (s.count c).fieldQuiet = s.fieldQuiet := rfl
@[simp] theorem count_pods (c : Counter) : (s.count c).pods = s.pods := rfl
@[simp] theorem count_zones (c : Counter) : (s.count c).zones = s.zones := rfl
@[simp] theorem count_changeSet (c : Counter) : (s.count c).changeSet = s.changeSet := rfl
@[simp] theorem count_alert (c : Counter) : (s.count c).alert = s.alert := rfl
@[simp] theorem count_outputs (c : Counter) : (s.count c).outputs = s.outputs := rfl
@[simp] theorem count_sweep (c : Counter) : (s.count c).sweep = s.sweep := rfl
@[simp] theorem count_bank0 (c : Counter) : (s.count c).bank0 = s.bank0 := rfl
@[simp] theorem count_bank1 (c : Counter) : (s.count c).bank1 = s.bank1 := rfl
@[simp] theorem count_selector (c : Counter) : (s.count c).selector = s.selector := rfl
@[simp] theorem count_image (c : Counter) : (s.count c).image = s.image := rfl
@[simp] theorem count_storeState (c : Counter) : (s.count c).storeState = s.storeState := rfl
@[simp] theorem count_imageBad (c : Counter) : (s.count c).imageBad = s.imageBad := rfl
@[simp] theorem count_snapshot (c : Counter) : (s.count c).snapshot = s.snapshot := rfl
@[simp] theorem count_storeTimer (c : Counter) : (s.count c).storeTimer = s.storeTimer := rfl
@[simp] theorem count_counters (c : Counter) : (s.count c).counters = tset s.counters (Counter.index c) (satSucc 65535 (s.counter c)) := rfl
@[simp] theorem count_freeCount (c : Counter) : (s.count c).freeCount = s.freeCount := rfl
@[simp] theorem count_pending (c : Counter) : (s.count c).pending = s.pending := rfl

/-! ### setPod -/

@[simp] theorem setPod_now (i : PodIx) (r : PodRecord) : (s.setPod i r).now = s.now := rfl
@[simp] theorem setPod_held (i : PodIx) (r : PodRecord) : (s.setPod i r).held = s.held := rfl
@[simp] theorem setPod_trate (i : PodIx) (r : PodRecord) : (s.setPod i r).trate = s.trate := rfl
@[simp] theorem setPod_addrStrap (i : PodIx) (r : PodRecord) : (s.setPod i r).addrStrap = s.addrStrap := rfl
@[simp] theorem setPod_trunkPort (i : PodIx) (r : PodRecord) : (s.setPod i r).trunkPort = s.trunkPort := rfl
@[simp] theorem setPod_trunkQuiet (i : PodIx) (r : PodRecord) : (s.setPod i r).trunkQuiet = s.trunkQuiet := rfl
@[simp] theorem setPod_slots (i : PodIx) (r : PodRecord) : (s.setPod i r).slots = s.slots := rfl
@[simp] theorem setPod_downQ (i : PodIx) (r : PodRecord) : (s.setPod i r).downQ = s.downQ := rfl
@[simp] theorem setPod_upQ (i : PodIx) (r : PodRecord) : (s.setPod i r).upQ = s.upQ := rfl
@[simp] theorem setPod_fieldPort (i : PodIx) (r : PodRecord) : (s.setPod i r).fieldPort = s.fieldPort := rfl
@[simp] theorem setPod_fieldQuiet (i : PodIx) (r : PodRecord) : (s.setPod i r).fieldQuiet = s.fieldQuiet := rfl
@[simp] theorem setPod_pods (i : PodIx) (r : PodRecord) : (s.setPod i r).pods = tset s.pods i r := rfl
@[simp] theorem setPod_zones (i : PodIx) (r : PodRecord) : (s.setPod i r).zones = s.zones := rfl
@[simp] theorem setPod_changeSet (i : PodIx) (r : PodRecord) : (s.setPod i r).changeSet = s.changeSet := rfl
@[simp] theorem setPod_alert (i : PodIx) (r : PodRecord) : (s.setPod i r).alert = s.alert := rfl
@[simp] theorem setPod_outputs (i : PodIx) (r : PodRecord) : (s.setPod i r).outputs = s.outputs := rfl
@[simp] theorem setPod_sweep (i : PodIx) (r : PodRecord) : (s.setPod i r).sweep = s.sweep := rfl
@[simp] theorem setPod_bank0 (i : PodIx) (r : PodRecord) : (s.setPod i r).bank0 = s.bank0 := rfl
@[simp] theorem setPod_bank1 (i : PodIx) (r : PodRecord) : (s.setPod i r).bank1 = s.bank1 := rfl
@[simp] theorem setPod_selector (i : PodIx) (r : PodRecord) : (s.setPod i r).selector = s.selector := rfl
@[simp] theorem setPod_image (i : PodIx) (r : PodRecord) : (s.setPod i r).image = s.image := rfl
@[simp] theorem setPod_storeState (i : PodIx) (r : PodRecord) : (s.setPod i r).storeState = s.storeState := rfl
@[simp] theorem setPod_imageBad (i : PodIx) (r : PodRecord) : (s.setPod i r).imageBad = s.imageBad := rfl
@[simp] theorem setPod_snapshot (i : PodIx) (r : PodRecord) : (s.setPod i r).snapshot = s.snapshot := rfl
@[simp] theorem setPod_storeTimer (i : PodIx) (r : PodRecord) : (s.setPod i r).storeTimer = s.storeTimer := rfl
@[simp] theorem setPod_counters (i : PodIx) (r : PodRecord) : (s.setPod i r).counters = s.counters := rfl
@[simp] theorem setPod_freeCount (i : PodIx) (r : PodRecord) : (s.setPod i r).freeCount = s.freeCount := rfl
@[simp] theorem setPod_pending (i : PodIx) (r : PodRecord) : (s.setPod i r).pending = s.pending := rfl

/-! ### setZone -/

@[simp] theorem setZone_now (z : ZoneIx) (r : ZoneRecord) : (s.setZone z r).now = s.now := rfl
@[simp] theorem setZone_held (z : ZoneIx) (r : ZoneRecord) : (s.setZone z r).held = s.held := rfl
@[simp] theorem setZone_trate (z : ZoneIx) (r : ZoneRecord) : (s.setZone z r).trate = s.trate := rfl
@[simp] theorem setZone_addrStrap (z : ZoneIx) (r : ZoneRecord) : (s.setZone z r).addrStrap = s.addrStrap := rfl
@[simp] theorem setZone_trunkPort (z : ZoneIx) (r : ZoneRecord) : (s.setZone z r).trunkPort = s.trunkPort := rfl
@[simp] theorem setZone_trunkQuiet (z : ZoneIx) (r : ZoneRecord) : (s.setZone z r).trunkQuiet = s.trunkQuiet := rfl
@[simp] theorem setZone_slots (z : ZoneIx) (r : ZoneRecord) : (s.setZone z r).slots = s.slots := rfl
@[simp] theorem setZone_downQ (z : ZoneIx) (r : ZoneRecord) : (s.setZone z r).downQ = s.downQ := rfl
@[simp] theorem setZone_upQ (z : ZoneIx) (r : ZoneRecord) : (s.setZone z r).upQ = s.upQ := rfl
@[simp] theorem setZone_fieldPort (z : ZoneIx) (r : ZoneRecord) : (s.setZone z r).fieldPort = s.fieldPort := rfl
@[simp] theorem setZone_fieldQuiet (z : ZoneIx) (r : ZoneRecord) : (s.setZone z r).fieldQuiet = s.fieldQuiet := rfl
@[simp] theorem setZone_pods (z : ZoneIx) (r : ZoneRecord) : (s.setZone z r).pods = s.pods := rfl
@[simp] theorem setZone_zones (z : ZoneIx) (r : ZoneRecord) : (s.setZone z r).zones = tset s.zones z r := rfl
@[simp] theorem setZone_changeSet (z : ZoneIx) (r : ZoneRecord) : (s.setZone z r).changeSet = s.changeSet := rfl
@[simp] theorem setZone_alert (z : ZoneIx) (r : ZoneRecord) : (s.setZone z r).alert = s.alert := rfl
@[simp] theorem setZone_outputs (z : ZoneIx) (r : ZoneRecord) : (s.setZone z r).outputs = s.outputs := rfl
@[simp] theorem setZone_sweep (z : ZoneIx) (r : ZoneRecord) : (s.setZone z r).sweep = s.sweep := rfl
@[simp] theorem setZone_bank0 (z : ZoneIx) (r : ZoneRecord) : (s.setZone z r).bank0 = s.bank0 := rfl
@[simp] theorem setZone_bank1 (z : ZoneIx) (r : ZoneRecord) : (s.setZone z r).bank1 = s.bank1 := rfl
@[simp] theorem setZone_selector (z : ZoneIx) (r : ZoneRecord) : (s.setZone z r).selector = s.selector := rfl
@[simp] theorem setZone_image (z : ZoneIx) (r : ZoneRecord) : (s.setZone z r).image = s.image := rfl
@[simp] theorem setZone_storeState (z : ZoneIx) (r : ZoneRecord) : (s.setZone z r).storeState = s.storeState := rfl
@[simp] theorem setZone_imageBad (z : ZoneIx) (r : ZoneRecord) : (s.setZone z r).imageBad = s.imageBad := rfl
@[simp] theorem setZone_snapshot (z : ZoneIx) (r : ZoneRecord) : (s.setZone z r).snapshot = s.snapshot := rfl
@[simp] theorem setZone_storeTimer (z : ZoneIx) (r : ZoneRecord) : (s.setZone z r).storeTimer = s.storeTimer := rfl
@[simp] theorem setZone_counters (z : ZoneIx) (r : ZoneRecord) : (s.setZone z r).counters = s.counters := rfl
@[simp] theorem setZone_freeCount (z : ZoneIx) (r : ZoneRecord) : (s.setZone z r).freeCount = s.freeCount := rfl
@[simp] theorem setZone_pending (z : ZoneIx) (r : ZoneRecord) : (s.setZone z r).pending = s.pending := rfl

/-! ### setOutput -/

@[simp] theorem setOutput_now (o : OutIx) (r : OutputRecord) : (s.setOutput o r).now = s.now := rfl
@[simp] theorem setOutput_held (o : OutIx) (r : OutputRecord) : (s.setOutput o r).held = s.held := rfl
@[simp] theorem setOutput_trate (o : OutIx) (r : OutputRecord) : (s.setOutput o r).trate = s.trate := rfl
@[simp] theorem setOutput_addrStrap (o : OutIx) (r : OutputRecord) : (s.setOutput o r).addrStrap = s.addrStrap := rfl
@[simp] theorem setOutput_trunkPort (o : OutIx) (r : OutputRecord) : (s.setOutput o r).trunkPort = s.trunkPort := rfl
@[simp] theorem setOutput_trunkQuiet (o : OutIx) (r : OutputRecord) : (s.setOutput o r).trunkQuiet = s.trunkQuiet := rfl
@[simp] theorem setOutput_slots (o : OutIx) (r : OutputRecord) : (s.setOutput o r).slots = s.slots := rfl
@[simp] theorem setOutput_downQ (o : OutIx) (r : OutputRecord) : (s.setOutput o r).downQ = s.downQ := rfl
@[simp] theorem setOutput_upQ (o : OutIx) (r : OutputRecord) : (s.setOutput o r).upQ = s.upQ := rfl
@[simp] theorem setOutput_fieldPort (o : OutIx) (r : OutputRecord) : (s.setOutput o r).fieldPort = s.fieldPort := rfl
@[simp] theorem setOutput_fieldQuiet (o : OutIx) (r : OutputRecord) : (s.setOutput o r).fieldQuiet = s.fieldQuiet := rfl
@[simp] theorem setOutput_pods (o : OutIx) (r : OutputRecord) : (s.setOutput o r).pods = s.pods := rfl
@[simp] theorem setOutput_zones (o : OutIx) (r : OutputRecord) : (s.setOutput o r).zones = s.zones := rfl
@[simp] theorem setOutput_changeSet (o : OutIx) (r : OutputRecord) : (s.setOutput o r).changeSet = s.changeSet := rfl
@[simp] theorem setOutput_alert (o : OutIx) (r : OutputRecord) : (s.setOutput o r).alert = s.alert := rfl
@[simp] theorem setOutput_outputs (o : OutIx) (r : OutputRecord) : (s.setOutput o r).outputs = tset s.outputs o r := rfl
@[simp] theorem setOutput_sweep (o : OutIx) (r : OutputRecord) : (s.setOutput o r).sweep = s.sweep := rfl
@[simp] theorem setOutput_bank0 (o : OutIx) (r : OutputRecord) : (s.setOutput o r).bank0 = s.bank0 := rfl
@[simp] theorem setOutput_bank1 (o : OutIx) (r : OutputRecord) : (s.setOutput o r).bank1 = s.bank1 := rfl
@[simp] theorem setOutput_selector (o : OutIx) (r : OutputRecord) : (s.setOutput o r).selector = s.selector := rfl
@[simp] theorem setOutput_image (o : OutIx) (r : OutputRecord) : (s.setOutput o r).image = s.image := rfl
@[simp] theorem setOutput_storeState (o : OutIx) (r : OutputRecord) : (s.setOutput o r).storeState = s.storeState := rfl
@[simp] theorem setOutput_imageBad (o : OutIx) (r : OutputRecord) : (s.setOutput o r).imageBad = s.imageBad := rfl
@[simp] theorem setOutput_snapshot (o : OutIx) (r : OutputRecord) : (s.setOutput o r).snapshot = s.snapshot := rfl
@[simp] theorem setOutput_storeTimer (o : OutIx) (r : OutputRecord) : (s.setOutput o r).storeTimer = s.storeTimer := rfl
@[simp] theorem setOutput_counters (o : OutIx) (r : OutputRecord) : (s.setOutput o r).counters = s.counters := rfl
@[simp] theorem setOutput_freeCount (o : OutIx) (r : OutputRecord) : (s.setOutput o r).freeCount = s.freeCount := rfl
@[simp] theorem setOutput_pending (o : OutIx) (r : OutputRecord) : (s.setOutput o r).pending = s.pending := rfl

/-! ### setSweep -/

@[simp] theorem setSweep_now (w : SweepRecord) : (s.setSweep w).now = s.now := rfl
@[simp] theorem setSweep_held (w : SweepRecord) : (s.setSweep w).held = s.held := rfl
@[simp] theorem setSweep_trate (w : SweepRecord) : (s.setSweep w).trate = s.trate := rfl
@[simp] theorem setSweep_addrStrap (w : SweepRecord) : (s.setSweep w).addrStrap = s.addrStrap := rfl
@[simp] theorem setSweep_trunkPort (w : SweepRecord) : (s.setSweep w).trunkPort = s.trunkPort := rfl
@[simp] theorem setSweep_trunkQuiet (w : SweepRecord) : (s.setSweep w).trunkQuiet = s.trunkQuiet := rfl
@[simp] theorem setSweep_slots (w : SweepRecord) : (s.setSweep w).slots = s.slots := rfl
@[simp] theorem setSweep_downQ (w : SweepRecord) : (s.setSweep w).downQ = s.downQ := rfl
@[simp] theorem setSweep_upQ (w : SweepRecord) : (s.setSweep w).upQ = s.upQ := rfl
@[simp] theorem setSweep_fieldPort (w : SweepRecord) : (s.setSweep w).fieldPort = s.fieldPort := rfl
@[simp] theorem setSweep_fieldQuiet (w : SweepRecord) : (s.setSweep w).fieldQuiet = s.fieldQuiet := rfl
@[simp] theorem setSweep_pods (w : SweepRecord) : (s.setSweep w).pods = s.pods := rfl
@[simp] theorem setSweep_zones (w : SweepRecord) : (s.setSweep w).zones = s.zones := rfl
@[simp] theorem setSweep_changeSet (w : SweepRecord) : (s.setSweep w).changeSet = s.changeSet := rfl
@[simp] theorem setSweep_alert (w : SweepRecord) : (s.setSweep w).alert = s.alert := rfl
@[simp] theorem setSweep_outputs (w : SweepRecord) : (s.setSweep w).outputs = s.outputs := rfl
@[simp] theorem setSweep_sweep (w : SweepRecord) : (s.setSweep w).sweep = w := rfl
@[simp] theorem setSweep_bank0 (w : SweepRecord) : (s.setSweep w).bank0 = s.bank0 := rfl
@[simp] theorem setSweep_bank1 (w : SweepRecord) : (s.setSweep w).bank1 = s.bank1 := rfl
@[simp] theorem setSweep_selector (w : SweepRecord) : (s.setSweep w).selector = s.selector := rfl
@[simp] theorem setSweep_image (w : SweepRecord) : (s.setSweep w).image = s.image := rfl
@[simp] theorem setSweep_storeState (w : SweepRecord) : (s.setSweep w).storeState = s.storeState := rfl
@[simp] theorem setSweep_imageBad (w : SweepRecord) : (s.setSweep w).imageBad = s.imageBad := rfl
@[simp] theorem setSweep_snapshot (w : SweepRecord) : (s.setSweep w).snapshot = s.snapshot := rfl
@[simp] theorem setSweep_storeTimer (w : SweepRecord) : (s.setSweep w).storeTimer = s.storeTimer := rfl
@[simp] theorem setSweep_counters (w : SweepRecord) : (s.setSweep w).counters = s.counters := rfl
@[simp] theorem setSweep_freeCount (w : SweepRecord) : (s.setSweep w).freeCount = s.freeCount := rfl
@[simp] theorem setSweep_pending (w : SweepRecord) : (s.setSweep w).pending = s.pending := rfl

/-! ### fillSlot -/

@[simp] theorem fillSlot_now (k : SlotNo) (t : List Byte) : (s.fillSlot k t).now = s.now := rfl
@[simp] theorem fillSlot_held (k : SlotNo) (t : List Byte) : (s.fillSlot k t).held = s.held := rfl
@[simp] theorem fillSlot_trate (k : SlotNo) (t : List Byte) : (s.fillSlot k t).trate = s.trate := rfl
@[simp] theorem fillSlot_addrStrap (k : SlotNo) (t : List Byte) : (s.fillSlot k t).addrStrap = s.addrStrap := rfl
@[simp] theorem fillSlot_trunkPort (k : SlotNo) (t : List Byte) : (s.fillSlot k t).trunkPort = s.trunkPort := rfl
@[simp] theorem fillSlot_trunkQuiet (k : SlotNo) (t : List Byte) : (s.fillSlot k t).trunkQuiet = s.trunkQuiet := rfl
@[simp] theorem fillSlot_slots (k : SlotNo) (t : List Byte) : (s.fillSlot k t).slots = tset s.slots k ((tget s.slots k).write t) := rfl
@[simp] theorem fillSlot_downQ (k : SlotNo) (t : List Byte) : (s.fillSlot k t).downQ = s.downQ := rfl
@[simp] theorem fillSlot_upQ (k : SlotNo) (t : List Byte) : (s.fillSlot k t).upQ = s.upQ := rfl
@[simp] theorem fillSlot_fieldPort (k : SlotNo) (t : List Byte) : (s.fillSlot k t).fieldPort = s.fieldPort := rfl
@[simp] theorem fillSlot_fieldQuiet (k : SlotNo) (t : List Byte) : (s.fillSlot k t).fieldQuiet = s.fieldQuiet := rfl
@[simp] theorem fillSlot_pods (k : SlotNo) (t : List Byte) : (s.fillSlot k t).pods = s.pods := rfl
@[simp] theorem fillSlot_zones (k : SlotNo) (t : List Byte) : (s.fillSlot k t).zones = s.zones := rfl
@[simp] theorem fillSlot_changeSet (k : SlotNo) (t : List Byte) : (s.fillSlot k t).changeSet = s.changeSet := rfl
@[simp] theorem fillSlot_alert (k : SlotNo) (t : List Byte) : (s.fillSlot k t).alert = s.alert := rfl
@[simp] theorem fillSlot_outputs (k : SlotNo) (t : List Byte) : (s.fillSlot k t).outputs = s.outputs := rfl
@[simp] theorem fillSlot_sweep (k : SlotNo) (t : List Byte) : (s.fillSlot k t).sweep = s.sweep := rfl
@[simp] theorem fillSlot_bank0 (k : SlotNo) (t : List Byte) : (s.fillSlot k t).bank0 = s.bank0 := rfl
@[simp] theorem fillSlot_bank1 (k : SlotNo) (t : List Byte) : (s.fillSlot k t).bank1 = s.bank1 := rfl
@[simp] theorem fillSlot_selector (k : SlotNo) (t : List Byte) : (s.fillSlot k t).selector = s.selector := rfl
@[simp] theorem fillSlot_image (k : SlotNo) (t : List Byte) : (s.fillSlot k t).image = s.image := rfl
@[simp] theorem fillSlot_storeState (k : SlotNo) (t : List Byte) : (s.fillSlot k t).storeState = s.storeState := rfl
@[simp] theorem fillSlot_imageBad (k : SlotNo) (t : List Byte) : (s.fillSlot k t).imageBad = s.imageBad := rfl
@[simp] theorem fillSlot_snapshot (k : SlotNo) (t : List Byte) : (s.fillSlot k t).snapshot = s.snapshot := rfl
@[simp] theorem fillSlot_storeTimer (k : SlotNo) (t : List Byte) : (s.fillSlot k t).storeTimer = s.storeTimer := rfl
@[simp] theorem fillSlot_counters (k : SlotNo) (t : List Byte) : (s.fillSlot k t).counters = s.counters := rfl
@[simp] theorem fillSlot_freeCount (k : SlotNo) (t : List Byte) : (s.fillSlot k t).freeCount = s.freeCount := rfl
@[simp] theorem fillSlot_pending (k : SlotNo) (t : List Byte) : (s.fillSlot k t).pending = s.pending := rfl

/-! ### joinDown -/

@[simp] theorem joinDown_now (k : SlotNo) : (s.joinDown k).now = s.now := rfl
@[simp] theorem joinDown_held (k : SlotNo) : (s.joinDown k).held = s.held := rfl
@[simp] theorem joinDown_trate (k : SlotNo) : (s.joinDown k).trate = s.trate := rfl
@[simp] theorem joinDown_addrStrap (k : SlotNo) : (s.joinDown k).addrStrap = s.addrStrap := rfl
@[simp] theorem joinDown_trunkPort (k : SlotNo) : (s.joinDown k).trunkPort = s.trunkPort := rfl
@[simp] theorem joinDown_trunkQuiet (k : SlotNo) : (s.joinDown k).trunkQuiet = s.trunkQuiet := rfl
@[simp] theorem joinDown_slots (k : SlotNo) : (s.joinDown k).slots = s.slots := rfl
@[simp] theorem joinDown_downQ (k : SlotNo) : (s.joinDown k).downQ = s.downQ ++ [k] := rfl
@[simp] theorem joinDown_upQ (k : SlotNo) : (s.joinDown k).upQ = s.upQ := rfl
@[simp] theorem joinDown_fieldPort (k : SlotNo) : (s.joinDown k).fieldPort = s.fieldPort := rfl
@[simp] theorem joinDown_fieldQuiet (k : SlotNo) : (s.joinDown k).fieldQuiet = s.fieldQuiet := rfl
@[simp] theorem joinDown_pods (k : SlotNo) : (s.joinDown k).pods = s.pods := rfl
@[simp] theorem joinDown_zones (k : SlotNo) : (s.joinDown k).zones = s.zones := rfl
@[simp] theorem joinDown_changeSet (k : SlotNo) : (s.joinDown k).changeSet = s.changeSet := rfl
@[simp] theorem joinDown_alert (k : SlotNo) : (s.joinDown k).alert = s.alert := rfl
@[simp] theorem joinDown_outputs (k : SlotNo) : (s.joinDown k).outputs = s.outputs := rfl
@[simp] theorem joinDown_sweep (k : SlotNo) : (s.joinDown k).sweep = s.sweep := rfl
@[simp] theorem joinDown_bank0 (k : SlotNo) : (s.joinDown k).bank0 = s.bank0 := rfl
@[simp] theorem joinDown_bank1 (k : SlotNo) : (s.joinDown k).bank1 = s.bank1 := rfl
@[simp] theorem joinDown_selector (k : SlotNo) : (s.joinDown k).selector = s.selector := rfl
@[simp] theorem joinDown_image (k : SlotNo) : (s.joinDown k).image = s.image := rfl
@[simp] theorem joinDown_storeState (k : SlotNo) : (s.joinDown k).storeState = s.storeState := rfl
@[simp] theorem joinDown_imageBad (k : SlotNo) : (s.joinDown k).imageBad = s.imageBad := rfl
@[simp] theorem joinDown_snapshot (k : SlotNo) : (s.joinDown k).snapshot = s.snapshot := rfl
@[simp] theorem joinDown_storeTimer (k : SlotNo) : (s.joinDown k).storeTimer = s.storeTimer := rfl
@[simp] theorem joinDown_counters (k : SlotNo) : (s.joinDown k).counters = s.counters := rfl
@[simp] theorem joinDown_freeCount (k : SlotNo) : (s.joinDown k).freeCount = s.freeCount := rfl
@[simp] theorem joinDown_pending (k : SlotNo) : (s.joinDown k).pending = s.pending := rfl

/-! ### joinUp -/

@[simp] theorem joinUp_now (k : SlotNo) : (s.joinUp k).now = s.now := rfl
@[simp] theorem joinUp_held (k : SlotNo) : (s.joinUp k).held = s.held := rfl
@[simp] theorem joinUp_trate (k : SlotNo) : (s.joinUp k).trate = s.trate := rfl
@[simp] theorem joinUp_addrStrap (k : SlotNo) : (s.joinUp k).addrStrap = s.addrStrap := rfl
@[simp] theorem joinUp_trunkPort (k : SlotNo) : (s.joinUp k).trunkPort = s.trunkPort := rfl
@[simp] theorem joinUp_trunkQuiet (k : SlotNo) : (s.joinUp k).trunkQuiet = s.trunkQuiet := rfl
@[simp] theorem joinUp_slots (k : SlotNo) : (s.joinUp k).slots = s.slots := rfl
@[simp] theorem joinUp_downQ (k : SlotNo) : (s.joinUp k).downQ = s.downQ := rfl
@[simp] theorem joinUp_upQ (k : SlotNo) : (s.joinUp k).upQ = s.upQ ++ [k] := rfl
@[simp] theorem joinUp_fieldPort (k : SlotNo) : (s.joinUp k).fieldPort = s.fieldPort := rfl
@[simp] theorem joinUp_fieldQuiet (k : SlotNo) : (s.joinUp k).fieldQuiet = s.fieldQuiet := rfl
@[simp] theorem joinUp_pods (k : SlotNo) : (s.joinUp k).pods = s.pods := rfl
@[simp] theorem joinUp_zones (k : SlotNo) : (s.joinUp k).zones = s.zones := rfl
@[simp] theorem joinUp_changeSet (k : SlotNo) : (s.joinUp k).changeSet = s.changeSet := rfl
@[simp] theorem joinUp_alert (k : SlotNo) : (s.joinUp k).alert = s.alert := rfl
@[simp] theorem joinUp_outputs (k : SlotNo) : (s.joinUp k).outputs = s.outputs := rfl
@[simp] theorem joinUp_sweep (k : SlotNo) : (s.joinUp k).sweep = s.sweep := rfl
@[simp] theorem joinUp_bank0 (k : SlotNo) : (s.joinUp k).bank0 = s.bank0 := rfl
@[simp] theorem joinUp_bank1 (k : SlotNo) : (s.joinUp k).bank1 = s.bank1 := rfl
@[simp] theorem joinUp_selector (k : SlotNo) : (s.joinUp k).selector = s.selector := rfl
@[simp] theorem joinUp_image (k : SlotNo) : (s.joinUp k).image = s.image := rfl
@[simp] theorem joinUp_storeState (k : SlotNo) : (s.joinUp k).storeState = s.storeState := rfl
@[simp] theorem joinUp_imageBad (k : SlotNo) : (s.joinUp k).imageBad = s.imageBad := rfl
@[simp] theorem joinUp_snapshot (k : SlotNo) : (s.joinUp k).snapshot = s.snapshot := rfl
@[simp] theorem joinUp_storeTimer (k : SlotNo) : (s.joinUp k).storeTimer = s.storeTimer := rfl
@[simp] theorem joinUp_counters (k : SlotNo) : (s.joinUp k).counters = s.counters := rfl
@[simp] theorem joinUp_freeCount (k : SlotNo) : (s.joinUp k).freeCount = s.freeCount := rfl
@[simp] theorem joinUp_pending (k : SlotNo) : (s.joinUp k).pending = s.pending := rfl

/-! ### setTrunk -/

@[simp] theorem setTrunk_now (p : TrunkPort) : (s.setTrunk p).now = s.now := rfl
@[simp] theorem setTrunk_held (p : TrunkPort) : (s.setTrunk p).held = s.held := rfl
@[simp] theorem setTrunk_trate (p : TrunkPort) : (s.setTrunk p).trate = s.trate := rfl
@[simp] theorem setTrunk_addrStrap (p : TrunkPort) : (s.setTrunk p).addrStrap = s.addrStrap := rfl
@[simp] theorem setTrunk_trunkPort (p : TrunkPort) : (s.setTrunk p).trunkPort = p := rfl
@[simp] theorem setTrunk_trunkQuiet (p : TrunkPort) : (s.setTrunk p).trunkQuiet = s.trunkQuiet := rfl
@[simp] theorem setTrunk_slots (p : TrunkPort) : (s.setTrunk p).slots = s.slots := rfl
@[simp] theorem setTrunk_downQ (p : TrunkPort) : (s.setTrunk p).downQ = s.downQ := rfl
@[simp] theorem setTrunk_upQ (p : TrunkPort) : (s.setTrunk p).upQ = s.upQ := rfl
@[simp] theorem setTrunk_fieldPort (p : TrunkPort) : (s.setTrunk p).fieldPort = s.fieldPort := rfl
@[simp] theorem setTrunk_fieldQuiet (p : TrunkPort) : (s.setTrunk p).fieldQuiet = s.fieldQuiet := rfl
@[simp] theorem setTrunk_pods (p : TrunkPort) : (s.setTrunk p).pods = s.pods := rfl
@[simp] theorem setTrunk_zones (p : TrunkPort) : (s.setTrunk p).zones = s.zones := rfl
@[simp] theorem setTrunk_changeSet (p : TrunkPort) : (s.setTrunk p).changeSet = s.changeSet := rfl
@[simp] theorem setTrunk_alert (p : TrunkPort) : (s.setTrunk p).alert = s.alert := rfl
@[simp] theorem setTrunk_outputs (p : TrunkPort) : (s.setTrunk p).outputs = s.outputs := rfl
@[simp] theorem setTrunk_sweep (p : TrunkPort) : (s.setTrunk p).sweep = s.sweep := rfl
@[simp] theorem setTrunk_bank0 (p : TrunkPort) : (s.setTrunk p).bank0 = s.bank0 := rfl
@[simp] theorem setTrunk_bank1 (p : TrunkPort) : (s.setTrunk p).bank1 = s.bank1 := rfl
@[simp] theorem setTrunk_selector (p : TrunkPort) : (s.setTrunk p).selector = s.selector := rfl
@[simp] theorem setTrunk_image (p : TrunkPort) : (s.setTrunk p).image = s.image := rfl
@[simp] theorem setTrunk_storeState (p : TrunkPort) : (s.setTrunk p).storeState = s.storeState := rfl
@[simp] theorem setTrunk_imageBad (p : TrunkPort) : (s.setTrunk p).imageBad = s.imageBad := rfl
@[simp] theorem setTrunk_snapshot (p : TrunkPort) : (s.setTrunk p).snapshot = s.snapshot := rfl
@[simp] theorem setTrunk_storeTimer (p : TrunkPort) : (s.setTrunk p).storeTimer = s.storeTimer := rfl
@[simp] theorem setTrunk_counters (p : TrunkPort) : (s.setTrunk p).counters = s.counters := rfl
@[simp] theorem setTrunk_freeCount (p : TrunkPort) : (s.setTrunk p).freeCount = s.freeCount := rfl
@[simp] theorem setTrunk_pending (p : TrunkPort) : (s.setTrunk p).pending = s.pending := rfl

/-! ### setField -/

@[simp] theorem setField_now (p : FieldPort) : (s.setField p).now = s.now := rfl
@[simp] theorem setField_held (p : FieldPort) : (s.setField p).held = s.held := rfl
@[simp] theorem setField_trate (p : FieldPort) : (s.setField p).trate = s.trate := rfl
@[simp] theorem setField_addrStrap (p : FieldPort) : (s.setField p).addrStrap = s.addrStrap := rfl
@[simp] theorem setField_trunkPort (p : FieldPort) : (s.setField p).trunkPort = s.trunkPort := rfl
@[simp] theorem setField_trunkQuiet (p : FieldPort) : (s.setField p).trunkQuiet = s.trunkQuiet := rfl
@[simp] theorem setField_slots (p : FieldPort) : (s.setField p).slots = s.slots := rfl
@[simp] theorem setField_downQ (p : FieldPort) : (s.setField p).downQ = s.downQ := rfl
@[simp] theorem setField_upQ (p : FieldPort) : (s.setField p).upQ = s.upQ := rfl
@[simp] theorem setField_fieldPort (p : FieldPort) : (s.setField p).fieldPort = p := rfl
@[simp] theorem setField_fieldQuiet (p : FieldPort) : (s.setField p).fieldQuiet = s.fieldQuiet := rfl
@[simp] theorem setField_pods (p : FieldPort) : (s.setField p).pods = s.pods := rfl
@[simp] theorem setField_zones (p : FieldPort) : (s.setField p).zones = s.zones := rfl
@[simp] theorem setField_changeSet (p : FieldPort) : (s.setField p).changeSet = s.changeSet := rfl
@[simp] theorem setField_alert (p : FieldPort) : (s.setField p).alert = s.alert := rfl
@[simp] theorem setField_outputs (p : FieldPort) : (s.setField p).outputs = s.outputs := rfl
@[simp] theorem setField_sweep (p : FieldPort) : (s.setField p).sweep = s.sweep := rfl
@[simp] theorem setField_bank0 (p : FieldPort) : (s.setField p).bank0 = s.bank0 := rfl
@[simp] theorem setField_bank1 (p : FieldPort) : (s.setField p).bank1 = s.bank1 := rfl
@[simp] theorem setField_selector (p : FieldPort) : (s.setField p).selector = s.selector := rfl
@[simp] theorem setField_image (p : FieldPort) : (s.setField p).image = s.image := rfl
@[simp] theorem setField_storeState (p : FieldPort) : (s.setField p).storeState = s.storeState := rfl
@[simp] theorem setField_imageBad (p : FieldPort) : (s.setField p).imageBad = s.imageBad := rfl
@[simp] theorem setField_snapshot (p : FieldPort) : (s.setField p).snapshot = s.snapshot := rfl
@[simp] theorem setField_storeTimer (p : FieldPort) : (s.setField p).storeTimer = s.storeTimer := rfl
@[simp] theorem setField_counters (p : FieldPort) : (s.setField p).counters = s.counters := rfl
@[simp] theorem setField_freeCount (p : FieldPort) : (s.setField p).freeCount = s.freeCount := rfl
@[simp] theorem setField_pending (p : FieldPort) : (s.setField p).pending = s.pending := rfl

/-! ### touchTrunk -/

@[simp] theorem touchTrunk_now : s.touchTrunk.now = s.now := rfl
@[simp] theorem touchTrunk_held : s.touchTrunk.held = s.held := rfl
@[simp] theorem touchTrunk_trate : s.touchTrunk.trate = s.trate := rfl
@[simp] theorem touchTrunk_addrStrap : s.touchTrunk.addrStrap = s.addrStrap := rfl
@[simp] theorem touchTrunk_trunkPort : s.touchTrunk.trunkPort = s.trunkPort := rfl
@[simp] theorem touchTrunk_trunkQuiet : s.touchTrunk.trunkQuiet = s.now := rfl
@[simp] theorem touchTrunk_slots : s.touchTrunk.slots = s.slots := rfl
@[simp] theorem touchTrunk_downQ : s.touchTrunk.downQ = s.downQ := rfl
@[simp] theorem touchTrunk_upQ : s.touchTrunk.upQ = s.upQ := rfl
@[simp] theorem touchTrunk_fieldPort : s.touchTrunk.fieldPort = s.fieldPort := rfl
@[simp] theorem touchTrunk_fieldQuiet : s.touchTrunk.fieldQuiet = s.fieldQuiet := rfl
@[simp] theorem touchTrunk_pods : s.touchTrunk.pods = s.pods := rfl
@[simp] theorem touchTrunk_zones : s.touchTrunk.zones = s.zones := rfl
@[simp] theorem touchTrunk_changeSet : s.touchTrunk.changeSet = s.changeSet := rfl
@[simp] theorem touchTrunk_alert : s.touchTrunk.alert = s.alert := rfl
@[simp] theorem touchTrunk_outputs : s.touchTrunk.outputs = s.outputs := rfl
@[simp] theorem touchTrunk_sweep : s.touchTrunk.sweep = s.sweep := rfl
@[simp] theorem touchTrunk_bank0 : s.touchTrunk.bank0 = s.bank0 := rfl
@[simp] theorem touchTrunk_bank1 : s.touchTrunk.bank1 = s.bank1 := rfl
@[simp] theorem touchTrunk_selector : s.touchTrunk.selector = s.selector := rfl
@[simp] theorem touchTrunk_image : s.touchTrunk.image = s.image := rfl
@[simp] theorem touchTrunk_storeState : s.touchTrunk.storeState = s.storeState := rfl
@[simp] theorem touchTrunk_imageBad : s.touchTrunk.imageBad = s.imageBad := rfl
@[simp] theorem touchTrunk_snapshot : s.touchTrunk.snapshot = s.snapshot := rfl
@[simp] theorem touchTrunk_storeTimer : s.touchTrunk.storeTimer = s.storeTimer := rfl
@[simp] theorem touchTrunk_counters : s.touchTrunk.counters = s.counters := rfl
@[simp] theorem touchTrunk_freeCount : s.touchTrunk.freeCount = s.freeCount := rfl
@[simp] theorem touchTrunk_pending : s.touchTrunk.pending = s.pending := rfl

/-! ### touchField -/

@[simp] theorem touchField_now : s.touchField.now = s.now := rfl
@[simp] theorem touchField_held : s.touchField.held = s.held := rfl
@[simp] theorem touchField_trate : s.touchField.trate = s.trate := rfl
@[simp] theorem touchField_addrStrap : s.touchField.addrStrap = s.addrStrap := rfl
@[simp] theorem touchField_trunkPort : s.touchField.trunkPort = s.trunkPort := rfl
@[simp] theorem touchField_trunkQuiet : s.touchField.trunkQuiet = s.trunkQuiet := rfl
@[simp] theorem touchField_slots : s.touchField.slots = s.slots := rfl
@[simp] theorem touchField_downQ : s.touchField.downQ = s.downQ := rfl
@[simp] theorem touchField_upQ : s.touchField.upQ = s.upQ := rfl
@[simp] theorem touchField_fieldPort : s.touchField.fieldPort = s.fieldPort := rfl
@[simp] theorem touchField_fieldQuiet : s.touchField.fieldQuiet = s.now := rfl
@[simp] theorem touchField_pods : s.touchField.pods = s.pods := rfl
@[simp] theorem touchField_zones : s.touchField.zones = s.zones := rfl
@[simp] theorem touchField_changeSet : s.touchField.changeSet = s.changeSet := rfl
@[simp] theorem touchField_alert : s.touchField.alert = s.alert := rfl
@[simp] theorem touchField_outputs : s.touchField.outputs = s.outputs := rfl
@[simp] theorem touchField_sweep : s.touchField.sweep = s.sweep := rfl
@[simp] theorem touchField_bank0 : s.touchField.bank0 = s.bank0 := rfl
@[simp] theorem touchField_bank1 : s.touchField.bank1 = s.bank1 := rfl
@[simp] theorem touchField_selector : s.touchField.selector = s.selector := rfl
@[simp] theorem touchField_image : s.touchField.image = s.image := rfl
@[simp] theorem touchField_storeState : s.touchField.storeState = s.storeState := rfl
@[simp] theorem touchField_imageBad : s.touchField.imageBad = s.imageBad := rfl
@[simp] theorem touchField_snapshot : s.touchField.snapshot = s.snapshot := rfl
@[simp] theorem touchField_storeTimer : s.touchField.storeTimer = s.storeTimer := rfl
@[simp] theorem touchField_counters : s.touchField.counters = s.counters := rfl
@[simp] theorem touchField_freeCount : s.touchField.freeCount = s.freeCount := rfl
@[simp] theorem touchField_pending : s.touchField.pending = s.pending := rfl

/-! ### setShadow -/

@[simp] theorem setShadow_now (b : Bank) : (s.setShadow b).now = s.now := by
  unfold State.setShadow; cases s.selector <;> rfl
@[simp] theorem setShadow_held (b : Bank) : (s.setShadow b).held = s.held := by
  unfold State.setShadow; cases s.selector <;> rfl
@[simp] theorem setShadow_trate (b : Bank) : (s.setShadow b).trate = s.trate := by
  unfold State.setShadow; cases s.selector <;> rfl
@[simp] theorem setShadow_addrStrap (b : Bank) : (s.setShadow b).addrStrap = s.addrStrap := by
  unfold State.setShadow; cases s.selector <;> rfl
@[simp] theorem setShadow_trunkPort (b : Bank) : (s.setShadow b).trunkPort = s.trunkPort := by
  unfold State.setShadow; cases s.selector <;> rfl
@[simp] theorem setShadow_trunkQuiet (b : Bank) : (s.setShadow b).trunkQuiet = s.trunkQuiet := by
  unfold State.setShadow; cases s.selector <;> rfl
@[simp] theorem setShadow_slots (b : Bank) : (s.setShadow b).slots = s.slots := by
  unfold State.setShadow; cases s.selector <;> rfl
@[simp] theorem setShadow_downQ (b : Bank) : (s.setShadow b).downQ = s.downQ := by
  unfold State.setShadow; cases s.selector <;> rfl
@[simp] theorem setShadow_upQ (b : Bank) : (s.setShadow b).upQ = s.upQ := by
  unfold State.setShadow; cases s.selector <;> rfl
@[simp] theorem setShadow_fieldPort (b : Bank) : (s.setShadow b).fieldPort = s.fieldPort := by
  unfold State.setShadow; cases s.selector <;> rfl
@[simp] theorem setShadow_fieldQuiet (b : Bank) : (s.setShadow b).fieldQuiet = s.fieldQuiet := by
  unfold State.setShadow; cases s.selector <;> rfl
@[simp] theorem setShadow_pods (b : Bank) : (s.setShadow b).pods = s.pods := by
  unfold State.setShadow; cases s.selector <;> rfl
@[simp] theorem setShadow_zones (b : Bank) : (s.setShadow b).zones = s.zones := by
  unfold State.setShadow; cases s.selector <;> rfl
@[simp] theorem setShadow_changeSet (b : Bank) : (s.setShadow b).changeSet = s.changeSet := by
  unfold State.setShadow; cases s.selector <;> rfl
@[simp] theorem setShadow_alert (b : Bank) : (s.setShadow b).alert = s.alert := by
  unfold State.setShadow; cases s.selector <;> rfl
@[simp] theorem setShadow_outputs (b : Bank) : (s.setShadow b).outputs = s.outputs := by
  unfold State.setShadow; cases s.selector <;> rfl
@[simp] theorem setShadow_sweep (b : Bank) : (s.setShadow b).sweep = s.sweep := by
  unfold State.setShadow; cases s.selector <;> rfl
@[simp] theorem setShadow_selector (b : Bank) : (s.setShadow b).selector = s.selector := by
  unfold State.setShadow; cases s.selector <;> rfl
@[simp] theorem setShadow_image (b : Bank) : (s.setShadow b).image = s.image := by
  unfold State.setShadow; cases s.selector <;> rfl
@[simp] theorem setShadow_storeState (b : Bank) : (s.setShadow b).storeState = s.storeState := by
  unfold State.setShadow; cases s.selector <;> rfl
@[simp] theorem setShadow_imageBad (b : Bank) : (s.setShadow b).imageBad = s.imageBad := by
  unfold State.setShadow; cases s.selector <;> rfl
@[simp] theorem setShadow_snapshot (b : Bank) : (s.setShadow b).snapshot = s.snapshot := by
  unfold State.setShadow; cases s.selector <;> rfl
@[simp] theorem setShadow_storeTimer (b : Bank) : (s.setShadow b).storeTimer = s.storeTimer := by
  unfold State.setShadow; cases s.selector <;> rfl
@[simp] theorem setShadow_counters (b : Bank) : (s.setShadow b).counters = s.counters := by
  unfold State.setShadow; cases s.selector <;> rfl
@[simp] theorem setShadow_freeCount (b : Bank) : (s.setShadow b).freeCount = s.freeCount := by
  unfold State.setShadow; cases s.selector <;> rfl
@[simp] theorem setShadow_pending (b : Bank) : (s.setShadow b).pending = s.pending := by
  unfold State.setShadow; cases s.selector <;> rfl

@[simp] theorem setShadow_shadow (b : Bank) : (s.setShadow b).shadow = b := by
  unfold State.setShadow State.shadow
  cases s.selector <;> simp

@[simp] theorem setShadow_active (b : Bank) : (s.setShadow b).active = s.active := by
  unfold State.setShadow State.active
  cases s.selector <;> simp

theorem setShadow_bank0 (b : Bank) : (s.setShadow b).bank0 = (match s.selector with | .zero => s.bank0 | .one => b) := by
  unfold State.setShadow
  cases s.selector <;> rfl

theorem setShadow_bank1 (b : Bank) : (s.setShadow b).bank1 = (match s.selector with | .zero => b | .one => s.bank1) := by
  unfold State.setShadow
  cases s.selector <;> rfl

/-! ### The active bank and the straps are read from fields that these updates leave -/

@[simp] theorem elapse_active (dt : Nat) : (s.elapse dt).active = s.active := rfl
@[simp] theorem elapse_ownAddr (dt : Nat) : (s.elapse dt).ownAddr = s.ownAddr := rfl
@[simp] theorem elapse_trunkChar (dt : Nat) : (s.elapse dt).trunkChar = s.trunkChar := rfl
@[simp] theorem count_active (c : Counter) : (s.count c).active = s.active := rfl
@[simp] theorem count_ownAddr (c : Counter) : (s.count c).ownAddr = s.ownAddr := rfl
@[simp] theorem count_trunkChar (c : Counter) : (s.count c).trunkChar = s.trunkChar := rfl
@[simp] theorem setPod_active (i : PodIx) (r : PodRecord) : (s.setPod i r).active = s.active := rfl
@[simp] theorem setPod_ownAddr (i : PodIx) (r : PodRecord) : (s.setPod i r).ownAddr = s.ownAddr := rfl
@[simp] theorem setPod_trunkChar (i : PodIx) (r : PodRecord) : (s.setPod i r).trunkChar = s.trunkChar := rfl
@[simp] theorem setZone_active (z : ZoneIx) (r : ZoneRecord) : (s.setZone z r).active = s.active := rfl
@[simp] theorem setZone_ownAddr (z : ZoneIx) (r : ZoneRecord) : (s.setZone z r).ownAddr = s.ownAddr := rfl
@[simp] theorem setZone_trunkChar (z : ZoneIx) (r : ZoneRecord) : (s.setZone z r).trunkChar = s.trunkChar := rfl
@[simp] theorem setOutput_active (o : OutIx) (r : OutputRecord) : (s.setOutput o r).active = s.active := rfl
@[simp] theorem setOutput_ownAddr (o : OutIx) (r : OutputRecord) : (s.setOutput o r).ownAddr = s.ownAddr := rfl
@[simp] theorem setOutput_trunkChar (o : OutIx) (r : OutputRecord) : (s.setOutput o r).trunkChar = s.trunkChar := rfl
@[simp] theorem setSweep_active (w : SweepRecord) : (s.setSweep w).active = s.active := rfl
@[simp] theorem setSweep_ownAddr (w : SweepRecord) : (s.setSweep w).ownAddr = s.ownAddr := rfl
@[simp] theorem setSweep_trunkChar (w : SweepRecord) : (s.setSweep w).trunkChar = s.trunkChar := rfl
@[simp] theorem fillSlot_active (k : SlotNo) (t : List Byte) : (s.fillSlot k t).active = s.active := rfl
@[simp] theorem fillSlot_ownAddr (k : SlotNo) (t : List Byte) : (s.fillSlot k t).ownAddr = s.ownAddr := rfl
@[simp] theorem fillSlot_trunkChar (k : SlotNo) (t : List Byte) : (s.fillSlot k t).trunkChar = s.trunkChar := rfl
@[simp] theorem joinDown_active (k : SlotNo) : (s.joinDown k).active = s.active := rfl
@[simp] theorem joinDown_ownAddr (k : SlotNo) : (s.joinDown k).ownAddr = s.ownAddr := rfl
@[simp] theorem joinDown_trunkChar (k : SlotNo) : (s.joinDown k).trunkChar = s.trunkChar := rfl
@[simp] theorem joinUp_active (k : SlotNo) : (s.joinUp k).active = s.active := rfl
@[simp] theorem joinUp_ownAddr (k : SlotNo) : (s.joinUp k).ownAddr = s.ownAddr := rfl
@[simp] theorem joinUp_trunkChar (k : SlotNo) : (s.joinUp k).trunkChar = s.trunkChar := rfl
@[simp] theorem setTrunk_active (p : TrunkPort) : (s.setTrunk p).active = s.active := rfl
@[simp] theorem setTrunk_ownAddr (p : TrunkPort) : (s.setTrunk p).ownAddr = s.ownAddr := rfl
@[simp] theorem setTrunk_trunkChar (p : TrunkPort) : (s.setTrunk p).trunkChar = s.trunkChar := rfl
@[simp] theorem setField_active (p : FieldPort) : (s.setField p).active = s.active := rfl
@[simp] theorem setField_ownAddr (p : FieldPort) : (s.setField p).ownAddr = s.ownAddr := rfl
@[simp] theorem setField_trunkChar (p : FieldPort) : (s.setField p).trunkChar = s.trunkChar := rfl
@[simp] theorem touchTrunk_active : s.touchTrunk.active = s.active := rfl
@[simp] theorem touchTrunk_ownAddr : s.touchTrunk.ownAddr = s.ownAddr := rfl
@[simp] theorem touchTrunk_trunkChar : s.touchTrunk.trunkChar = s.trunkChar := rfl
@[simp] theorem touchField_active : s.touchField.active = s.active := rfl
@[simp] theorem touchField_ownAddr : s.touchField.ownAddr = s.ownAddr := rfl
@[simp] theorem touchField_trunkChar : s.touchField.trunkChar = s.trunkChar := rfl
@[simp] theorem setShadow_ownAddr (b : Bank) : (s.setShadow b).ownAddr = s.ownAddr := by
  unfold State.setShadow; cases s.selector <;> rfl
@[simp] theorem setShadow_trunkChar (b : Bank) : (s.setShadow b).trunkChar = s.trunkChar := by
  unfold State.setShadow; cases s.selector <;> rfl

/-! ### Reading back -/

@[simp] theorem Slot.write_text (u : Slot) (t : List Byte) : (u.write t).text = t := rfl

@[simp] theorem Slot.write_beyond (u : Slot) (t : List Byte) : (u.write t).beyond = (u.text ++ u.beyond).drop t.length :=
  rfl

/-- Characters written over fewer from the same position leave the slot as though the fewer had not been written. -/
theorem Slot.write_write (u : Slot) {t v : List Byte} (h : t.length ≤ v.length) : (u.write t).write v = u.write v := by
  have e : t.length + (v.length - t.length) = v.length := by omega
  simp only [Slot.write, Slot.mk.injEq, true_and]
  rw [List.drop_append, List.drop_eq_nil_of_le h, List.nil_append, List.drop_drop, e]

/-- R103: a slot keeps its positions under a write that fits. -/
theorem Slot.write_positions (u : Slot) {t : List Byte} (h : t.length ≤ u.text.length + u.beyond.length) :
    (u.write t).text.length + (u.write t).beyond.length = u.text.length + u.beyond.length := by
  simp
  omega

@[simp] theorem fillSlot_slot (k : SlotNo) (t : List Byte) : (s.fillSlot k t).slot k = t := by
  simp [State.slot, State.fillSlot]

theorem fillSlot_slot_ne {k j : SlotNo} (t : List Byte) (h : k ≠ j) : (s.fillSlot k t).slot j = s.slot j := by
  simp [State.slot, State.fillSlot, tget_tset_ne _ _ h]

theorem fillSlot_fillSlot (k : SlotNo) {t u : List Byte} (h : t.length ≤ u.length) :
    (s.fillSlot k t).fillSlot k u = s.fillSlot k u := by
  simp [State.fillSlot, Slot.write_write _ h]

@[simp] theorem setTrunk_setTrunk (p q : TrunkPort) : (s.setTrunk p).setTrunk q = s.setTrunk q := rfl

@[simp] theorem setField_setField (p q : FieldPort) : (s.setField p).setField q = s.setField q := rfl

@[simp] theorem setSweep_setSweep (v w : SweepRecord) : (s.setSweep v).setSweep w = s.setSweep w := rfl

@[simp] theorem elapse_zero : s.elapse 0 = s := rfl

theorem elapse_elapse (a b : Nat) : (s.elapse a).elapse b = s.elapse (a + b) := by
  simp [State.elapse, Nat.add_assoc]

/-- A counter after a count: the one counted rises, saturating, and every other stays. -/
theorem count_counter (c d : Counter) :
    (s.count c).counter d = if c = d then satSucc 65535 (s.counter d) else s.counter d := by
  have inj : Counter.index c = Counter.index d ↔ c = d := by cases c <;> cases d <;> decide
  simp only [State.counter, State.count, tget_tset, inj]
  split
  · next h => subst h; rfl
  · rfl

end Sys2Proof.Machine
end

