-- ==== Sys2Proof/Laws/Ops.lean ====
section
/-! SUPPORT. What an event, a saturating count and a grant can do. -/

namespace Sys2Proof.Machine

/-! ### Events -/

/-- An event answers a next state. -/
theorem event_next (dt : Nat) (f : State → State) (s : State) :
    event dt f s = .next (if s.held then s.elapse dt else f (s.elapse dt)) := rfl

/-- Out of reset an event has its effect. -/
theorem event_running {s : State} (h : s.held = false) (dt : Nat) (f : State → State) :
    event dt f s = .next (f (s.elapse dt)) := by
  simp [event, h]

/-- In reset only time passes. -/
theorem event_held {s : State} (h : s.held = true) (dt : Nat) (f : State → State) :
    event dt f s = .next (s.elapse dt) := by
  simp [event, h]

/-- What holds after time has passed, and after the effect, holds after the event. -/
theorem event_keeps {P : State → Prop} {dt : Nat} {f : State → State} {s t : State}
    (ht : P (s.elapse dt)) (hf : s.held = false → P (f (s.elapse dt))) (h : event dt f s = .next t) : P t := by
  rw [event_next] at h
  injection h with h
  subst h
  cases hh : s.held
  · simpa using hf hh
  · simpa using ht

/-! ### Saturating counts -/

theorem satSucc_le {limit n : Nat} (h : n ≤ limit) : satSucc limit n ≤ limit := by
  unfold satSucc
  split <;> omega

theorem satSucc_of_lt {limit n : Nat} (h : n < limit) : satSucc limit n = n + 1 := by simp [satSucc, h]

theorem satSucc_self (limit : Nat) : satSucc limit limit = limit := by simp [satSucc]

/-! ### Grants (R105) -/

theorem mem_freeSlots {s : State} {k : SlotNo} : k ∈ s.freeSlots ↔ k ∉ s.occupied := by
  simp [State.freeSlots, List.mem_finRange]

/-- R105: a granted slot was FREE. -/
theorem grant_free {s : State} {k : SlotNo} (h : s.grant = some k) : k ∉ s.occupied :=
  mem_freeSlots.1 (List.mem_of_mem_head? h)

/-- R105: a claim fails exactly when no slot is FREE. -/
theorem grant_none {s : State} : s.grant = none ↔ ∀ k, k ∈ s.occupied := by
  rw [State.grant, List.head?_eq_none_iff]
  constructor
  · intro h k
    by_contra hk
    have := mem_freeSlots.2 hk
    simp [h] at this
  · intro h
    apply List.eq_nil_iff_forall_not_mem.2
    intro k hk
    exact mem_freeSlots.1 hk (h k)

/-- R105: the slot granted is the lowest-numbered FREE one. -/
theorem grant_lowest {s : State} {k j : SlotNo} (h : s.grant = some k) (hj : j ∉ s.occupied) : k ≤ j := by
  have hsorted : s.freeSlots.Pairwise (· < ·) := List.Pairwise.filter _ (List.pairwise_lt_finRange 16)
  obtain ⟨l, hl⟩ : ∃ l, s.freeSlots = k :: l := by
    rw [State.grant] at h
    cases hf : s.freeSlots with
    | nil => simp [hf] at h
    | cons a l => simp [hf] at h; exact ⟨l, by rw [h]⟩
  have hm : j ∈ s.freeSlots := mem_freeSlots.2 hj
  rw [hl] at hm hsorted
  rcases List.mem_cons.1 hm with e | hm
  · exact le_of_eq e.symm
  · exact le_of_lt (List.rel_of_pairwise_cons hsorted hm)

end Sys2Proof.Machine
end

