-- ==== Sys2Proof/Laws/Blocks.lean ====
section
/-! SUPPORT. Which fields each block's operations leave as they were. -/

namespace Sys2Proof.Machine

variable (s : State)


/-! ### putZone: zones, the change set and the alert line -/

@[simp] theorem putZone_now (z : ZoneIx) (r : ZoneRecord) : (s.putZone z r).now = s.now :=
  by unfold State.putZone; split <;> rfl
@[simp] theorem putZone_held (z : ZoneIx) (r : ZoneRecord) : (s.putZone z r).held = s.held :=
  by unfold State.putZone; split <;> rfl
@[simp] theorem putZone_trate (z : ZoneIx) (r : ZoneRecord) : (s.putZone z r).trate = s.trate :=
  by unfold State.putZone; split <;> rfl
@[simp] theorem putZone_addrStrap (z : ZoneIx) (r : ZoneRecord) : (s.putZone z r).addrStrap = s.addrStrap :=
  by unfold State.putZone; split <;> rfl
@[simp] theorem putZone_trunkPort (z : ZoneIx) (r : ZoneRecord) : (s.putZone z r).trunkPort = s.trunkPort :=
  by unfold State.putZone; split <;> rfl
@[simp] theorem putZone_trunkQuiet (z : ZoneIx) (r : ZoneRecord) : (s.putZone z r).trunkQuiet = s.trunkQuiet :=
  by unfold State.putZone; split <;> rfl
@[simp] theorem putZone_slots (z : ZoneIx) (r : ZoneRecord) : (s.putZone z r).slots = s.slots :=
  by unfold State.putZone; split <;> rfl
@[simp] theorem putZone_downQ (z : ZoneIx) (r : ZoneRecord) : (s.putZone z r).downQ = s.downQ :=
  by unfold State.putZone; split <;> rfl
@[simp] theorem putZone_upQ (z : ZoneIx) (r : ZoneRecord) : (s.putZone z r).upQ = s.upQ :=
  by unfold State.putZone; split <;> rfl
@[simp] theorem putZone_fieldPort (z : ZoneIx) (r : ZoneRecord) : (s.putZone z r).fieldPort = s.fieldPort :=
  by unfold State.putZone; split <;> rfl
@[simp] theorem putZone_fieldQuiet (z : ZoneIx) (r : ZoneRecord) : (s.putZone z r).fieldQuiet = s.fieldQuiet :=
  by unfold State.putZone; split <;> rfl
@[simp] theorem putZone_pods (z : ZoneIx) (r : ZoneRecord) : (s.putZone z r).pods = s.pods :=
  by unfold State.putZone; split <;> rfl
@[simp] theorem putZone_outputs (z : ZoneIx) (r : ZoneRecord) : (s.putZone z r).outputs = s.outputs :=
  by unfold State.putZone; split <;> rfl
@[simp] theorem putZone_sweep (z : ZoneIx) (r : ZoneRecord) : (s.putZone z r).sweep = s.sweep :=
  by unfold State.putZone; split <;> rfl
@[simp] theorem putZone_bank0 (z : ZoneIx) (r : ZoneRecord) : (s.putZone z r).bank0 = s.bank0 :=
  by unfold State.putZone; split <;> rfl
@[simp] theorem putZone_bank1 (z : ZoneIx) (r : ZoneRecord) : (s.putZone z r).bank1 = s.bank1 :=
  by unfold State.putZone; split <;> rfl
@[simp] theorem putZone_selector (z : ZoneIx) (r : ZoneRecord) : (s.putZone z r).selector = s.selector :=
  by unfold State.putZone; split <;> rfl
@[simp] theorem putZone_image (z : ZoneIx) (r : ZoneRecord) : (s.putZone z r).image = s.image :=
  by unfold State.putZone; split <;> rfl
@[simp] theorem putZone_storeState (z : ZoneIx) (r : ZoneRecord) : (s.putZone z r).storeState = s.storeState :=
  by unfold State.putZone; split <;> rfl
@[simp] theorem putZone_imageBad (z : ZoneIx) (r : ZoneRecord) : (s.putZone z r).imageBad = s.imageBad :=
  by unfold State.putZone; split <;> rfl
@[simp] theorem putZone_snapshot (z : ZoneIx) (r : ZoneRecord) : (s.putZone z r).snapshot = s.snapshot :=
  by unfold State.putZone; split <;> rfl
@[simp] theorem putZone_storeTimer (z : ZoneIx) (r : ZoneRecord) : (s.putZone z r).storeTimer = s.storeTimer :=
  by unfold State.putZone; split <;> rfl
@[simp] theorem putZone_counters (z : ZoneIx) (r : ZoneRecord) : (s.putZone z r).counters = s.counters :=
  by unfold State.putZone; split <;> rfl
@[simp] theorem putZone_freeCount (z : ZoneIx) (r : ZoneRecord) : (s.putZone z r).freeCount = s.freeCount :=
  by unfold State.putZone; split <;> rfl
@[simp] theorem putZone_pending (z : ZoneIx) (r : ZoneRecord) : (s.putZone z r).pending = s.pending :=
  by unfold State.putZone; split <;> rfl
@[simp] theorem putZone_active (z : ZoneIx) (r : ZoneRecord) : (s.putZone z r).active = s.active :=
  by unfold State.putZone; split <;> rfl

/-! ### redrive: outputs -/

@[simp] theorem redrive_now (z : ZoneIx) : (s.redrive z).now = s.now := rfl
@[simp] theorem redrive_held (z : ZoneIx) : (s.redrive z).held = s.held := rfl
@[simp] theorem redrive_trate (z : ZoneIx) : (s.redrive z).trate = s.trate := rfl
@[simp] theorem redrive_addrStrap (z : ZoneIx) : (s.redrive z).addrStrap = s.addrStrap := rfl
@[simp] theorem redrive_trunkPort (z : ZoneIx) : (s.redrive z).trunkPort = s.trunkPort := rfl
@[simp] theorem redrive_trunkQuiet (z : ZoneIx) : (s.redrive z).trunkQuiet = s.trunkQuiet := rfl
@[simp] theorem redrive_slots (z : ZoneIx) : (s.redrive z).slots = s.slots := rfl
@[simp] theorem redrive_downQ (z : ZoneIx) : (s.redrive z).downQ = s.downQ := rfl
@[simp] theorem redrive_upQ (z : ZoneIx) : (s.redrive z).upQ = s.upQ := rfl
@[simp] theorem redrive_fieldPort (z : ZoneIx) : (s.redrive z).fieldPort = s.fieldPort := rfl
@[simp] theorem redrive_fieldQuiet (z : ZoneIx) : (s.redrive z).fieldQuiet = s.fieldQuiet := rfl
@[simp] theorem redrive_pods (z : ZoneIx) : (s.redrive z).pods = s.pods := rfl
@[simp] theorem redrive_zones (z : ZoneIx) : (s.redrive z).zones = s.zones := rfl
@[simp] theorem redrive_changeSet (z : ZoneIx) : (s.redrive z).changeSet = s.changeSet := rfl
@[simp] theorem redrive_alert (z : ZoneIx) : (s.redrive z).alert = s.alert := rfl
@[simp] theorem redrive_sweep (z : ZoneIx) : (s.redrive z).sweep = s.sweep := rfl
@[simp] theorem redrive_bank0 (z : ZoneIx) : (s.redrive z).bank0 = s.bank0 := rfl
@[simp] theorem redrive_bank1 (z : ZoneIx) : (s.redrive z).bank1 = s.bank1 := rfl
@[simp] theorem redrive_selector (z : ZoneIx) : (s.redrive z).selector = s.selector := rfl
@[simp] theorem redrive_image (z : ZoneIx) : (s.redrive z).image = s.image := rfl
@[simp] theorem redrive_storeState (z : ZoneIx) : (s.redrive z).storeState = s.storeState := rfl
@[simp] theorem redrive_imageBad (z : ZoneIx) : (s.redrive z).imageBad = s.imageBad := rfl
@[simp] theorem redrive_snapshot (z : ZoneIx) : (s.redrive z).snapshot = s.snapshot := rfl
@[simp] theorem redrive_storeTimer (z : ZoneIx) : (s.redrive z).storeTimer = s.storeTimer := rfl
@[simp] theorem redrive_counters (z : ZoneIx) : (s.redrive z).counters = s.counters := rfl
@[simp] theorem redrive_freeCount (z : ZoneIx) : (s.redrive z).freeCount = s.freeCount := rfl
@[simp] theorem redrive_pending (z : ZoneIx) : (s.redrive z).pending = s.pending := rfl
@[simp] theorem redrive_active (z : ZoneIx) : (s.redrive z).active = s.active := rfl

/-! ### redriveAll: outputs -/

@[simp] theorem redriveAll_now : s.redriveAll.now = s.now := rfl
@[simp] theorem redriveAll_held : s.redriveAll.held = s.held := rfl
@[simp] theorem redriveAll_trate : s.redriveAll.trate = s.trate := rfl
@[simp] theorem redriveAll_addrStrap : s.redriveAll.addrStrap = s.addrStrap := rfl
@[simp] theorem redriveAll_trunkPort : s.redriveAll.trunkPort = s.trunkPort := rfl
@[simp] theorem redriveAll_trunkQuiet : s.redriveAll.trunkQuiet = s.trunkQuiet := rfl
@[simp] theorem redriveAll_slots : s.redriveAll.slots = s.slots := rfl
@[simp] theorem redriveAll_downQ : s.redriveAll.downQ = s.downQ := rfl
@[simp] theorem redriveAll_upQ : s.redriveAll.upQ = s.upQ := rfl
@[simp] theorem redriveAll_fieldPort : s.redriveAll.fieldPort = s.fieldPort := rfl
@[simp] theorem redriveAll_fieldQuiet : s.redriveAll.fieldQuiet = s.fieldQuiet := rfl
@[simp] theorem redriveAll_pods : s.redriveAll.pods = s.pods := rfl
@[simp] theorem redriveAll_zones : s.redriveAll.zones = s.zones := rfl
@[simp] theorem redriveAll_changeSet : s.redriveAll.changeSet = s.changeSet := rfl
@[simp] theorem redriveAll_alert : s.redriveAll.alert = s.alert := rfl
@[simp] theorem redriveAll_sweep : s.redriveAll.sweep = s.sweep := rfl
@[simp] theorem redriveAll_bank0 : s.redriveAll.bank0 = s.bank0 := rfl
@[simp] theorem redriveAll_bank1 : s.redriveAll.bank1 = s.bank1 := rfl
@[simp] theorem redriveAll_selector : s.redriveAll.selector = s.selector := rfl
@[simp] theorem redriveAll_image : s.redriveAll.image = s.image := rfl
@[simp] theorem redriveAll_storeState : s.redriveAll.storeState = s.storeState := rfl
@[simp] theorem redriveAll_imageBad : s.redriveAll.imageBad = s.imageBad := rfl
@[simp] theorem redriveAll_snapshot : s.redriveAll.snapshot = s.snapshot := rfl
@[simp] theorem redriveAll_storeTimer : s.redriveAll.storeTimer = s.storeTimer := rfl
@[simp] theorem redriveAll_counters : s.redriveAll.counters = s.counters := rfl
@[simp] theorem redriveAll_freeCount : s.redriveAll.freeCount = s.freeCount := rfl
@[simp] theorem redriveAll_pending : s.redriveAll.pending = s.pending := rfl
@[simp] theorem redriveAll_active : s.redriveAll.active = s.active := rfl

/-! ### putAndHandOver: zones, change set, alert line and outputs -/

@[simp] theorem putAndHandOver_now (z : ZoneIx) (r : ZoneRecord) : (s.putAndHandOver z r).now = s.now :=
  by unfold State.putAndHandOver; split <;> simp
@[simp] theorem putAndHandOver_held (z : ZoneIx) (r : ZoneRecord) : (s.putAndHandOver z r).held = s.held :=
  by unfold State.putAndHandOver; split <;> simp
@[simp] theorem putAndHandOver_trate (z : ZoneIx) (r : ZoneRecord) : (s.putAndHandOver z r).trate = s.trate :=
  by unfold State.putAndHandOver; split <;> simp
@[simp] theorem putAndHandOver_addrStrap (z : ZoneIx) (r : ZoneRecord) : (s.putAndHandOver z r).addrStrap = s.addrStrap :=
  by unfold State.putAndHandOver; split <;> simp
@[simp] theorem putAndHandOver_trunkPort (z : ZoneIx) (r : ZoneRecord) : (s.putAndHandOver z r).trunkPort = s.trunkPort :=
  by unfold State.putAndHandOver; split <;> simp
@[simp] theorem putAndHandOver_trunkQuiet (z : ZoneIx) (r : ZoneRecord) : (s.putAndHandOver z r).trunkQuiet = s.trunkQuiet :=
  by unfold State.putAndHandOver; split <;> simp
@[simp] theorem putAndHandOver_slots (z : ZoneIx) (r : ZoneRecord) : (s.putAndHandOver z r).slots = s.slots :=
  by unfold State.putAndHandOver; split <;> simp
@[simp] theorem putAndHandOver_downQ (z : ZoneIx) (r : ZoneRecord) : (s.putAndHandOver z r).downQ = s.downQ :=
  by unfold State.putAndHandOver; split <;> simp
@[simp] theorem putAndHandOver_upQ (z : ZoneIx) (r : ZoneRecord) : (s.putAndHandOver z r).upQ = s.upQ :=
  by unfold State.putAndHandOver; split <;> simp
@[simp] theorem putAndHandOver_fieldPort (z : ZoneIx) (r : ZoneRecord) : (s.putAndHandOver z r).fieldPort = s.fieldPort :=
  by unfold State.putAndHandOver; split <;> simp
@[simp] theorem putAndHandOver_fieldQuiet (z : ZoneIx) (r : ZoneRecord) : (s.putAndHandOver z r).fieldQuiet = s.fieldQuiet :=
  by unfold State.putAndHandOver; split <;> simp
@[simp] theorem putAndHandOver_pods (z : ZoneIx) (r : ZoneRecord) : (s.putAndHandOver z r).pods = s.pods :=
  by unfold State.putAndHandOver; split <;> simp
@[simp] theorem putAndHandOver_sweep (z : ZoneIx) (r : ZoneRecord) : (s.putAndHandOver z r).sweep = s.sweep :=
  by unfold State.putAndHandOver; split <;> simp
@[simp] theorem putAndHandOver_bank0 (z : ZoneIx) (r : ZoneRecord) : (s.putAndHandOver z r).bank0 = s.bank0 :=
  by unfold State.putAndHandOver; split <;> simp
@[simp] theorem putAndHandOver_bank1 (z : ZoneIx) (r : ZoneRecord) : (s.putAndHandOver z r).bank1 = s.bank1 :=
  by unfold State.putAndHandOver; split <;> simp
@[simp] theorem putAndHandOver_selector (z : ZoneIx) (r : ZoneRecord) : (s.putAndHandOver z r).selector = s.selector :=
  by unfold State.putAndHandOver; split <;> simp
@[simp] theorem putAndHandOver_image (z : ZoneIx) (r : ZoneRecord) : (s.putAndHandOver z r).image = s.image :=
  by unfold State.putAndHandOver; split <;> simp
@[simp] theorem putAndHandOver_storeState (z : ZoneIx) (r : ZoneRecord) : (s.putAndHandOver z r).storeState = s.storeState :=
  by unfold State.putAndHandOver; split <;> simp
@[simp] theorem putAndHandOver_imageBad (z : ZoneIx) (r : ZoneRecord) : (s.putAndHandOver z r).imageBad = s.imageBad :=
  by unfold State.putAndHandOver; split <;> simp
@[simp] theorem putAndHandOver_snapshot (z : ZoneIx) (r : ZoneRecord) : (s.putAndHandOver z r).snapshot = s.snapshot :=
  by unfold State.putAndHandOver; split <;> simp
@[simp] theorem putAndHandOver_storeTimer (z : ZoneIx) (r : ZoneRecord) : (s.putAndHandOver z r).storeTimer = s.storeTimer :=
  by unfold State.putAndHandOver; split <;> simp
@[simp] theorem putAndHandOver_counters (z : ZoneIx) (r : ZoneRecord) : (s.putAndHandOver z r).counters = s.counters :=
  by unfold State.putAndHandOver; split <;> simp
@[simp] theorem putAndHandOver_freeCount (z : ZoneIx) (r : ZoneRecord) : (s.putAndHandOver z r).freeCount = s.freeCount :=
  by unfold State.putAndHandOver; split <;> simp
@[simp] theorem putAndHandOver_pending (z : ZoneIx) (r : ZoneRecord) : (s.putAndHandOver z r).pending = s.pending :=
  by unfold State.putAndHandOver; split <;> simp
@[simp] theorem putAndHandOver_active (z : ZoneIx) (r : ZoneRecord) : (s.putAndHandOver z r).active = s.active :=
  by unfold State.putAndHandOver; split <;> simp

/-! ### evaluate: zones, change set, alert line and outputs -/

@[simp] theorem evaluate_now (z : ZoneIx) : (s.evaluate z).now = s.now := by unfold State.evaluate; split <;> simp
@[simp] theorem evaluate_held (z : ZoneIx) : (s.evaluate z).held = s.held := by unfold State.evaluate; split <;> simp
@[simp] theorem evaluate_trate (z : ZoneIx) : (s.evaluate z).trate = s.trate :=
  by unfold State.evaluate; split <;> simp
@[simp] theorem evaluate_addrStrap (z : ZoneIx) : (s.evaluate z).addrStrap = s.addrStrap :=
  by unfold State.evaluate; split <;> simp
@[simp] theorem evaluate_trunkPort (z : ZoneIx) : (s.evaluate z).trunkPort = s.trunkPort :=
  by unfold State.evaluate; split <;> simp
@[simp] theorem evaluate_trunkQuiet (z : ZoneIx) : (s.evaluate z).trunkQuiet = s.trunkQuiet :=
  by unfold State.evaluate; split <;> simp
@[simp] theorem evaluate_slots (z : ZoneIx) : (s.evaluate z).slots = s.slots :=
  by unfold State.evaluate; split <;> simp
@[simp] theorem evaluate_downQ (z : ZoneIx) : (s.evaluate z).downQ = s.downQ :=
  by unfold State.evaluate; split <;> simp
@[simp] theorem evaluate_upQ (z : ZoneIx) : (s.evaluate z).upQ = s.upQ := by unfold State.evaluate; split <;> simp
@[simp] theorem evaluate_fieldPort (z : ZoneIx) : (s.evaluate z).fieldPort = s.fieldPort :=
  by unfold State.evaluate; split <;> simp
@[simp] theorem evaluate_fieldQuiet (z : ZoneIx) : (s.evaluate z).fieldQuiet = s.fieldQuiet :=
  by unfold State.evaluate; split <;> simp
@[simp] theorem evaluate_pods (z : ZoneIx) : (s.evaluate z).pods = s.pods := by unfold State.evaluate; split <;> simp
@[simp] theorem evaluate_sweep (z : ZoneIx) : (s.evaluate z).sweep = s.sweep :=
  by unfold State.evaluate; split <;> simp
@[simp] theorem evaluate_bank0 (z : ZoneIx) : (s.evaluate z).bank0 = s.bank0 :=
  by unfold State.evaluate; split <;> simp
@[simp] theorem evaluate_bank1 (z : ZoneIx) : (s.evaluate z).bank1 = s.bank1 :=
  by unfold State.evaluate; split <;> simp
@[simp] theorem evaluate_selector (z : ZoneIx) : (s.evaluate z).selector = s.selector :=
  by unfold State.evaluate; split <;> simp
@[simp] theorem evaluate_image (z : ZoneIx) : (s.evaluate z).image = s.image :=
  by unfold State.evaluate; split <;> simp
@[simp] theorem evaluate_storeState (z : ZoneIx) : (s.evaluate z).storeState = s.storeState :=
  by unfold State.evaluate; split <;> simp
@[simp] theorem evaluate_imageBad (z : ZoneIx) : (s.evaluate z).imageBad = s.imageBad :=
  by unfold State.evaluate; split <;> simp
@[simp] theorem evaluate_snapshot (z : ZoneIx) : (s.evaluate z).snapshot = s.snapshot :=
  by unfold State.evaluate; split <;> simp
@[simp] theorem evaluate_storeTimer (z : ZoneIx) : (s.evaluate z).storeTimer = s.storeTimer :=
  by unfold State.evaluate; split <;> simp
@[simp] theorem evaluate_counters (z : ZoneIx) : (s.evaluate z).counters = s.counters :=
  by unfold State.evaluate; split <;> simp
@[simp] theorem evaluate_freeCount (z : ZoneIx) : (s.evaluate z).freeCount = s.freeCount :=
  by unfold State.evaluate; split <;> simp
@[simp] theorem evaluate_pending (z : ZoneIx) : (s.evaluate z).pending = s.pending :=
  by unfold State.evaluate; split <;> simp
@[simp] theorem evaluate_active (z : ZoneIx) : (s.evaluate z).active = s.active :=
  by unfold State.evaluate; split <;> simp

/-! ### evaluateOnly: zones, change set and alert line -/

@[simp] theorem evaluateOnly_now (z : ZoneIx) : (s.evaluateOnly z).now = s.now :=
  by unfold State.evaluateOnly; split <;> simp
@[simp] theorem evaluateOnly_held (z : ZoneIx) : (s.evaluateOnly z).held = s.held :=
  by unfold State.evaluateOnly; split <;> simp
@[simp] theorem evaluateOnly_trate (z : ZoneIx) : (s.evaluateOnly z).trate = s.trate :=
  by unfold State.evaluateOnly; split <;> simp
@[simp] theorem evaluateOnly_addrStrap (z : ZoneIx) : (s.evaluateOnly z).addrStrap = s.addrStrap :=
  by unfold State.evaluateOnly; split <;> simp
@[simp] theorem evaluateOnly_trunkPort (z : ZoneIx) : (s.evaluateOnly z).trunkPort = s.trunkPort :=
  by unfold State.evaluateOnly; split <;> simp
@[simp] theorem evaluateOnly_trunkQuiet (z : ZoneIx) : (s.evaluateOnly z).trunkQuiet = s.trunkQuiet :=
  by unfold State.evaluateOnly; split <;> simp
@[simp] theorem evaluateOnly_slots (z : ZoneIx) : (s.evaluateOnly z).slots = s.slots :=
  by unfold State.evaluateOnly; split <;> simp
@[simp] theorem evaluateOnly_downQ (z : ZoneIx) : (s.evaluateOnly z).downQ = s.downQ :=
  by unfold State.evaluateOnly; split <;> simp
@[simp] theorem evaluateOnly_upQ (z : ZoneIx) : (s.evaluateOnly z).upQ = s.upQ :=
  by unfold State.evaluateOnly; split <;> simp
@[simp] theorem evaluateOnly_fieldPort (z : ZoneIx) : (s.evaluateOnly z).fieldPort = s.fieldPort :=
  by unfold State.evaluateOnly; split <;> simp
@[simp] theorem evaluateOnly_fieldQuiet (z : ZoneIx) : (s.evaluateOnly z).fieldQuiet = s.fieldQuiet :=
  by unfold State.evaluateOnly; split <;> simp
@[simp] theorem evaluateOnly_pods (z : ZoneIx) : (s.evaluateOnly z).pods = s.pods :=
  by unfold State.evaluateOnly; split <;> simp
@[simp] theorem evaluateOnly_outputs (z : ZoneIx) : (s.evaluateOnly z).outputs = s.outputs :=
  by unfold State.evaluateOnly; split <;> simp
@[simp] theorem evaluateOnly_sweep (z : ZoneIx) : (s.evaluateOnly z).sweep = s.sweep :=
  by unfold State.evaluateOnly; split <;> simp
@[simp] theorem evaluateOnly_bank0 (z : ZoneIx) : (s.evaluateOnly z).bank0 = s.bank0 :=
  by unfold State.evaluateOnly; split <;> simp
@[simp] theorem evaluateOnly_bank1 (z : ZoneIx) : (s.evaluateOnly z).bank1 = s.bank1 :=
  by unfold State.evaluateOnly; split <;> simp
@[simp] theorem evaluateOnly_selector (z : ZoneIx) : (s.evaluateOnly z).selector = s.selector :=
  by unfold State.evaluateOnly; split <;> simp
@[simp] theorem evaluateOnly_image (z : ZoneIx) : (s.evaluateOnly z).image = s.image :=
  by unfold State.evaluateOnly; split <;> simp
@[simp] theorem evaluateOnly_storeState (z : ZoneIx) : (s.evaluateOnly z).storeState = s.storeState :=
  by unfold State.evaluateOnly; split <;> simp
@[simp] theorem evaluateOnly_imageBad (z : ZoneIx) : (s.evaluateOnly z).imageBad = s.imageBad :=
  by unfold State.evaluateOnly; split <;> simp
@[simp] theorem evaluateOnly_snapshot (z : ZoneIx) : (s.evaluateOnly z).snapshot = s.snapshot :=
  by unfold State.evaluateOnly; split <;> simp
@[simp] theorem evaluateOnly_storeTimer (z : ZoneIx) : (s.evaluateOnly z).storeTimer = s.storeTimer :=
  by unfold State.evaluateOnly; split <;> simp
@[simp] theorem evaluateOnly_counters (z : ZoneIx) : (s.evaluateOnly z).counters = s.counters :=
  by unfold State.evaluateOnly; split <;> simp
@[simp] theorem evaluateOnly_freeCount (z : ZoneIx) : (s.evaluateOnly z).freeCount = s.freeCount :=
  by unfold State.evaluateOnly; split <;> simp
@[simp] theorem evaluateOnly_pending (z : ZoneIx) : (s.evaluateOnly z).pending = s.pending :=
  by unfold State.evaluateOnly; split <;> simp
@[simp] theorem evaluateOnly_active (z : ZoneIx) : (s.evaluateOnly z).active = s.active :=
  by unfold State.evaluateOnly; split <;> simp

/-! ### evaluatePodZone: zones, change set, alert line and outputs -/

@[simp] theorem evaluatePodZone_now (i : PodIx) : (s.evaluatePodZone i).now = s.now :=
  by unfold State.evaluatePodZone; split <;> simp
@[simp] theorem evaluatePodZone_held (i : PodIx) : (s.evaluatePodZone i).held = s.held :=
  by unfold State.evaluatePodZone; split <;> simp
@[simp] theorem evaluatePodZone_trate (i : PodIx) : (s.evaluatePodZone i).trate = s.trate :=
  by unfold State.evaluatePodZone; split <;> simp
@[simp] theorem evaluatePodZone_addrStrap (i : PodIx) : (s.evaluatePodZone i).addrStrap = s.addrStrap :=
  by unfold State.evaluatePodZone; split <;> simp
@[simp] theorem evaluatePodZone_trunkPort (i : PodIx) : (s.evaluatePodZone i).trunkPort = s.trunkPort :=
  by unfold State.evaluatePodZone; split <;> simp
@[simp] theorem evaluatePodZone_trunkQuiet (i : PodIx) : (s.evaluatePodZone i).trunkQuiet = s.trunkQuiet :=
  by unfold State.evaluatePodZone; split <;> simp
@[simp] theorem evaluatePodZone_slots (i : PodIx) : (s.evaluatePodZone i).slots = s.slots :=
  by unfold State.evaluatePodZone; split <;> simp
@[simp] theorem evaluatePodZone_downQ (i : PodIx) : (s.evaluatePodZone i).downQ = s.downQ :=
  by unfold State.evaluatePodZone; split <;> simp
@[simp] theorem evaluatePodZone_upQ (i : PodIx) : (s.evaluatePodZone i).upQ = s.upQ :=
  by unfold State.evaluatePodZone; split <;> simp
@[simp] theorem evaluatePodZone_fieldPort (i : PodIx) : (s.evaluatePodZone i).fieldPort = s.fieldPort :=
  by unfold State.evaluatePodZone; split <;> simp
@[simp] theorem evaluatePodZone_fieldQuiet (i : PodIx) : (s.evaluatePodZone i).fieldQuiet = s.fieldQuiet :=
  by unfold State.evaluatePodZone; split <;> simp
@[simp] theorem evaluatePodZone_pods (i : PodIx) : (s.evaluatePodZone i).pods = s.pods :=
  by unfold State.evaluatePodZone; split <;> simp
@[simp] theorem evaluatePodZone_sweep (i : PodIx) : (s.evaluatePodZone i).sweep = s.sweep :=
  by unfold State.evaluatePodZone; split <;> simp
@[simp] theorem evaluatePodZone_bank0 (i : PodIx) : (s.evaluatePodZone i).bank0 = s.bank0 :=
  by unfold State.evaluatePodZone; split <;> simp
@[simp] theorem evaluatePodZone_bank1 (i : PodIx) : (s.evaluatePodZone i).bank1 = s.bank1 :=
  by unfold State.evaluatePodZone; split <;> simp
@[simp] theorem evaluatePodZone_selector (i : PodIx) : (s.evaluatePodZone i).selector = s.selector :=
  by unfold State.evaluatePodZone; split <;> simp
@[simp] theorem evaluatePodZone_image (i : PodIx) : (s.evaluatePodZone i).image = s.image :=
  by unfold State.evaluatePodZone; split <;> simp
@[simp] theorem evaluatePodZone_storeState (i : PodIx) : (s.evaluatePodZone i).storeState = s.storeState :=
  by unfold State.evaluatePodZone; split <;> simp
@[simp] theorem evaluatePodZone_imageBad (i : PodIx) : (s.evaluatePodZone i).imageBad = s.imageBad :=
  by unfold State.evaluatePodZone; split <;> simp
@[simp] theorem evaluatePodZone_snapshot (i : PodIx) : (s.evaluatePodZone i).snapshot = s.snapshot :=
  by unfold State.evaluatePodZone; split <;> simp
@[simp] theorem evaluatePodZone_storeTimer (i : PodIx) : (s.evaluatePodZone i).storeTimer = s.storeTimer :=
  by unfold State.evaluatePodZone; split <;> simp
@[simp] theorem evaluatePodZone_counters (i : PodIx) : (s.evaluatePodZone i).counters = s.counters :=
  by unfold State.evaluatePodZone; split <;> simp
@[simp] theorem evaluatePodZone_freeCount (i : PodIx) : (s.evaluatePodZone i).freeCount = s.freeCount :=
  by unfold State.evaluatePodZone; split <;> simp
@[simp] theorem evaluatePodZone_pending (i : PodIx) : (s.evaluatePodZone i).pending = s.pending :=
  by unfold State.evaluatePodZone; split <;> simp
@[simp] theorem evaluatePodZone_active (i : PodIx) : (s.evaluatePodZone i).active = s.active :=
  by unfold State.evaluatePodZone; split <;> simp

/-! ### enterCoverage: the sweep record -/

@[simp] theorem enterCoverage_now (i : PodIx) : (s.enterCoverage i).now = s.now :=
  by unfold State.enterCoverage; split <;> simp
@[simp] theorem enterCoverage_held (i : PodIx) : (s.enterCoverage i).held = s.held :=
  by unfold State.enterCoverage; split <;> simp
@[simp] theorem enterCoverage_trate (i : PodIx) : (s.enterCoverage i).trate = s.trate :=
  by unfold State.enterCoverage; split <;> simp
@[simp] theorem enterCoverage_addrStrap (i : PodIx) : (s.enterCoverage i).addrStrap = s.addrStrap :=
  by unfold State.enterCoverage; split <;> simp
@[simp] theorem enterCoverage_trunkPort (i : PodIx) : (s.enterCoverage i).trunkPort = s.trunkPort :=
  by unfold State.enterCoverage; split <;> simp
@[simp] theorem enterCoverage_trunkQuiet (i : PodIx) : (s.enterCoverage i).trunkQuiet = s.trunkQuiet :=
  by unfold State.enterCoverage; split <;> simp
@[simp] theorem enterCoverage_slots (i : PodIx) : (s.enterCoverage i).slots = s.slots :=
  by unfold State.enterCoverage; split <;> simp
@[simp] theorem enterCoverage_downQ (i : PodIx) : (s.enterCoverage i).downQ = s.downQ :=
  by unfold State.enterCoverage; split <;> simp
@[simp] theorem enterCoverage_upQ (i : PodIx) : (s.enterCoverage i).upQ = s.upQ :=
  by unfold State.enterCoverage; split <;> simp
@[simp] theorem enterCoverage_fieldPort (i : PodIx) : (s.enterCoverage i).fieldPort = s.fieldPort :=
  by unfold State.enterCoverage; split <;> simp
@[simp] theorem enterCoverage_fieldQuiet (i : PodIx) : (s.enterCoverage i).fieldQuiet = s.fieldQuiet :=
  by unfold State.enterCoverage; split <;> simp
@[simp] theorem enterCoverage_pods (i : PodIx) : (s.enterCoverage i).pods = s.pods :=
  by unfold State.enterCoverage; split <;> simp
@[simp] theorem enterCoverage_zones (i : PodIx) : (s.enterCoverage i).zones = s.zones :=
  by unfold State.enterCoverage; split <;> simp
@[simp] theorem enterCoverage_changeSet (i : PodIx) : (s.enterCoverage i).changeSet = s.changeSet :=
  by unfold State.enterCoverage; split <;> simp
@[simp] theorem enterCoverage_alert (i : PodIx) : (s.enterCoverage i).alert = s.alert :=
  by unfold State.enterCoverage; split <;> simp
@[simp] theorem enterCoverage_outputs (i : PodIx) : (s.enterCoverage i).outputs = s.outputs :=
  by unfold State.enterCoverage; split <;> simp
@[simp] theorem enterCoverage_bank0 (i : PodIx) : (s.enterCoverage i).bank0 = s.bank0 :=
  by unfold State.enterCoverage; split <;> simp
@[simp] theorem enterCoverage_bank1 (i : PodIx) : (s.enterCoverage i).bank1 = s.bank1 :=
  by unfold State.enterCoverage; split <;> simp
@[simp] theorem enterCoverage_selector (i : PodIx) : (s.enterCoverage i).selector = s.selector :=
  by unfold State.enterCoverage; split <;> simp
@[simp] theorem enterCoverage_image (i : PodIx) : (s.enterCoverage i).image = s.image :=
  by unfold State.enterCoverage; split <;> simp
@[simp] theorem enterCoverage_storeState (i : PodIx) : (s.enterCoverage i).storeState = s.storeState :=
  by unfold State.enterCoverage; split <;> simp
@[simp] theorem enterCoverage_imageBad (i : PodIx) : (s.enterCoverage i).imageBad = s.imageBad :=
  by unfold State.enterCoverage; split <;> simp
@[simp] theorem enterCoverage_snapshot (i : PodIx) : (s.enterCoverage i).snapshot = s.snapshot :=
  by unfold State.enterCoverage; split <;> simp
@[simp] theorem enterCoverage_storeTimer (i : PodIx) : (s.enterCoverage i).storeTimer = s.storeTimer :=
  by unfold State.enterCoverage; split <;> simp
@[simp] theorem enterCoverage_counters (i : PodIx) : (s.enterCoverage i).counters = s.counters :=
  by unfold State.enterCoverage; split <;> simp
@[simp] theorem enterCoverage_freeCount (i : PodIx) : (s.enterCoverage i).freeCount = s.freeCount :=
  by unfold State.enterCoverage; split <;> simp
@[simp] theorem enterCoverage_pending (i : PodIx) : (s.enterCoverage i).pending = s.pending :=
  by unfold State.enterCoverage; split <;> simp
@[simp] theorem enterCoverage_active (i : PodIx) : (s.enterCoverage i).active = s.active :=
  by unfold State.enterCoverage; split <;> simp

/-! ### takeReply: pods, zones, change set, alert line, outputs, sweep, counters -/

@[simp] theorem takeReply_now (i : PodIx) (p : List Byte) : (s.takeReply i p).now = s.now :=
  by unfold State.takeReply; cases takingOf (s.podEntry i) (tget s.pods i) p <;> simp
@[simp] theorem takeReply_held (i : PodIx) (p : List Byte) : (s.takeReply i p).held = s.held :=
  by unfold State.takeReply; cases takingOf (s.podEntry i) (tget s.pods i) p <;> simp
@[simp] theorem takeReply_trate (i : PodIx) (p : List Byte) : (s.takeReply i p).trate = s.trate :=
  by unfold State.takeReply; cases takingOf (s.podEntry i) (tget s.pods i) p <;> simp
@[simp] theorem takeReply_addrStrap (i : PodIx) (p : List Byte) : (s.takeReply i p).addrStrap = s.addrStrap :=
  by unfold State.takeReply; cases takingOf (s.podEntry i) (tget s.pods i) p <;> simp
@[simp] theorem takeReply_trunkPort (i : PodIx) (p : List Byte) : (s.takeReply i p).trunkPort = s.trunkPort :=
  by unfold State.takeReply; cases takingOf (s.podEntry i) (tget s.pods i) p <;> simp
@[simp] theorem takeReply_trunkQuiet (i : PodIx) (p : List Byte) : (s.takeReply i p).trunkQuiet = s.trunkQuiet :=
  by unfold State.takeReply; cases takingOf (s.podEntry i) (tget s.pods i) p <;> simp
@[simp] theorem takeReply_slots (i : PodIx) (p : List Byte) : (s.takeReply i p).slots = s.slots :=
  by unfold State.takeReply; cases takingOf (s.podEntry i) (tget s.pods i) p <;> simp
@[simp] theorem takeReply_downQ (i : PodIx) (p : List Byte) : (s.takeReply i p).downQ = s.downQ :=
  by unfold State.takeReply; cases takingOf (s.podEntry i) (tget s.pods i) p <;> simp
@[simp] theorem takeReply_upQ (i : PodIx) (p : List Byte) : (s.takeReply i p).upQ = s.upQ :=
  by unfold State.takeReply; cases takingOf (s.podEntry i) (tget s.pods i) p <;> simp
@[simp] theorem takeReply_fieldPort (i : PodIx) (p : List Byte) : (s.takeReply i p).fieldPort = s.fieldPort :=
  by unfold State.takeReply; cases takingOf (s.podEntry i) (tget s.pods i) p <;> simp
@[simp] theorem takeReply_fieldQuiet (i : PodIx) (p : List Byte) : (s.takeReply i p).fieldQuiet = s.fieldQuiet :=
  by unfold State.takeReply; cases takingOf (s.podEntry i) (tget s.pods i) p <;> simp
@[simp] theorem takeReply_bank0 (i : PodIx) (p : List Byte) : (s.takeReply i p).bank0 = s.bank0 :=
  by unfold State.takeReply; cases takingOf (s.podEntry i) (tget s.pods i) p <;> simp
@[simp] theorem takeReply_bank1 (i : PodIx) (p : List Byte) : (s.takeReply i p).bank1 = s.bank1 :=
  by unfold State.takeReply; cases takingOf (s.podEntry i) (tget s.pods i) p <;> simp
@[simp] theorem takeReply_selector (i : PodIx) (p : List Byte) : (s.takeReply i p).selector = s.selector :=
  by unfold State.takeReply; cases takingOf (s.podEntry i) (tget s.pods i) p <;> simp
@[simp] theorem takeReply_image (i : PodIx) (p : List Byte) : (s.takeReply i p).image = s.image :=
  by unfold State.takeReply; cases takingOf (s.podEntry i) (tget s.pods i) p <;> simp
@[simp] theorem takeReply_storeState (i : PodIx) (p : List Byte) : (s.takeReply i p).storeState = s.storeState :=
  by unfold State.takeReply; cases takingOf (s.podEntry i) (tget s.pods i) p <;> simp
@[simp] theorem takeReply_imageBad (i : PodIx) (p : List Byte) : (s.takeReply i p).imageBad = s.imageBad :=
  by unfold State.takeReply; cases takingOf (s.podEntry i) (tget s.pods i) p <;> simp
@[simp] theorem takeReply_snapshot (i : PodIx) (p : List Byte) : (s.takeReply i p).snapshot = s.snapshot :=
  by unfold State.takeReply; cases takingOf (s.podEntry i) (tget s.pods i) p <;> simp
@[simp] theorem takeReply_storeTimer (i : PodIx) (p : List Byte) : (s.takeReply i p).storeTimer = s.storeTimer :=
  by unfold State.takeReply; cases takingOf (s.podEntry i) (tget s.pods i) p <;> simp
@[simp] theorem takeReply_freeCount (i : PodIx) (p : List Byte) : (s.takeReply i p).freeCount = s.freeCount :=
  by unfold State.takeReply; cases takingOf (s.podEntry i) (tget s.pods i) p <;> simp
@[simp] theorem takeReply_pending (i : PodIx) (p : List Byte) : (s.takeReply i p).pending = s.pending :=
  by unfold State.takeReply; cases takingOf (s.podEntry i) (tget s.pods i) p <;> simp
@[simp] theorem takeReply_active (i : PodIx) (p : List Byte) : (s.takeReply i p).active = s.active :=
  by unfold State.takeReply; cases takingOf (s.podEntry i) (tget s.pods i) p <;> simp

/-! ### countMiss: pods -/

@[simp] theorem countMiss_now (i : PodIx) : (s.countMiss i).now = s.now := rfl
@[simp] theorem countMiss_held (i : PodIx) : (s.countMiss i).held = s.held := rfl
@[simp] theorem countMiss_trate (i : PodIx) : (s.countMiss i).trate = s.trate := rfl
@[simp] theorem countMiss_addrStrap (i : PodIx) : (s.countMiss i).addrStrap = s.addrStrap := rfl
@[simp] theorem countMiss_trunkPort (i : PodIx) : (s.countMiss i).trunkPort = s.trunkPort := rfl
@[simp] theorem countMiss_trunkQuiet (i : PodIx) : (s.countMiss i).trunkQuiet = s.trunkQuiet := rfl
@[simp] theorem countMiss_slots (i : PodIx) : (s.countMiss i).slots = s.slots := rfl
@[simp] theorem countMiss_downQ (i : PodIx) : (s.countMiss i).downQ = s.downQ := rfl
@[simp] theorem countMiss_upQ (i : PodIx) : (s.countMiss i).upQ = s.upQ := rfl
@[simp] theorem countMiss_fieldPort (i : PodIx) : (s.countMiss i).fieldPort = s.fieldPort := rfl
@[simp] theorem countMiss_fieldQuiet (i : PodIx) : (s.countMiss i).fieldQuiet = s.fieldQuiet := rfl
@[simp] theorem countMiss_zones (i : PodIx) : (s.countMiss i).zones = s.zones := rfl
@[simp] theorem countMiss_changeSet (i : PodIx) : (s.countMiss i).changeSet = s.changeSet := rfl
@[simp] theorem countMiss_alert (i : PodIx) : (s.countMiss i).alert = s.alert := rfl
@[simp] theorem countMiss_outputs (i : PodIx) : (s.countMiss i).outputs = s.outputs := rfl
@[simp] theorem countMiss_sweep (i : PodIx) : (s.countMiss i).sweep = s.sweep := rfl
@[simp] theorem countMiss_bank0 (i : PodIx) : (s.countMiss i).bank0 = s.bank0 := rfl
@[simp] theorem countMiss_bank1 (i : PodIx) : (s.countMiss i).bank1 = s.bank1 := rfl
@[simp] theorem countMiss_selector (i : PodIx) : (s.countMiss i).selector = s.selector := rfl
@[simp] theorem countMiss_image (i : PodIx) : (s.countMiss i).image = s.image := rfl
@[simp] theorem countMiss_storeState (i : PodIx) : (s.countMiss i).storeState = s.storeState := rfl
@[simp] theorem countMiss_imageBad (i : PodIx) : (s.countMiss i).imageBad = s.imageBad := rfl
@[simp] theorem countMiss_snapshot (i : PodIx) : (s.countMiss i).snapshot = s.snapshot := rfl
@[simp] theorem countMiss_storeTimer (i : PodIx) : (s.countMiss i).storeTimer = s.storeTimer := rfl
@[simp] theorem countMiss_counters (i : PodIx) : (s.countMiss i).counters = s.counters := rfl
@[simp] theorem countMiss_freeCount (i : PodIx) : (s.countMiss i).freeCount = s.freeCount := rfl
@[simp] theorem countMiss_pending (i : PodIx) : (s.countMiss i).pending = s.pending := rfl
@[simp] theorem countMiss_active (i : PodIx) : (s.countMiss i).active = s.active := rfl

/-! ### enterGuard: the field port -/

@[simp] theorem enterGuard_now (t : Txn) (o : TxnOutcome) : (s.enterGuard t o).now = s.now := rfl
@[simp] theorem enterGuard_held (t : Txn) (o : TxnOutcome) : (s.enterGuard t o).held = s.held := rfl
@[simp] theorem enterGuard_trate (t : Txn) (o : TxnOutcome) : (s.enterGuard t o).trate = s.trate := rfl
@[simp] theorem enterGuard_addrStrap (t : Txn) (o : TxnOutcome) : (s.enterGuard t o).addrStrap = s.addrStrap := rfl
@[simp] theorem enterGuard_trunkPort (t : Txn) (o : TxnOutcome) : (s.enterGuard t o).trunkPort = s.trunkPort := rfl
@[simp] theorem enterGuard_trunkQuiet (t : Txn) (o : TxnOutcome) : (s.enterGuard t o).trunkQuiet = s.trunkQuiet := rfl
@[simp] theorem enterGuard_slots (t : Txn) (o : TxnOutcome) : (s.enterGuard t o).slots = s.slots := rfl
@[simp] theorem enterGuard_downQ (t : Txn) (o : TxnOutcome) : (s.enterGuard t o).downQ = s.downQ := rfl
@[simp] theorem enterGuard_upQ (t : Txn) (o : TxnOutcome) : (s.enterGuard t o).upQ = s.upQ := rfl
@[simp] theorem enterGuard_fieldQuiet (t : Txn) (o : TxnOutcome) : (s.enterGuard t o).fieldQuiet = s.fieldQuiet := rfl
@[simp] theorem enterGuard_pods (t : Txn) (o : TxnOutcome) : (s.enterGuard t o).pods = s.pods := rfl
@[simp] theorem enterGuard_zones (t : Txn) (o : TxnOutcome) : (s.enterGuard t o).zones = s.zones := rfl
@[simp] theorem enterGuard_changeSet (t : Txn) (o : TxnOutcome) : (s.enterGuard t o).changeSet = s.changeSet := rfl
@[simp] theorem enterGuard_alert (t : Txn) (o : TxnOutcome) : (s.enterGuard t o).alert = s.alert := rfl
@[simp] theorem enterGuard_outputs (t : Txn) (o : TxnOutcome) : (s.enterGuard t o).outputs = s.outputs := rfl
@[simp] theorem enterGuard_sweep (t : Txn) (o : TxnOutcome) : (s.enterGuard t o).sweep = s.sweep := rfl
@[simp] theorem enterGuard_bank0 (t : Txn) (o : TxnOutcome) : (s.enterGuard t o).bank0 = s.bank0 := rfl
@[simp] theorem enterGuard_bank1 (t : Txn) (o : TxnOutcome) : (s.enterGuard t o).bank1 = s.bank1 := rfl
@[simp] theorem enterGuard_selector (t : Txn) (o : TxnOutcome) : (s.enterGuard t o).selector = s.selector := rfl
@[simp] theorem enterGuard_image (t : Txn) (o : TxnOutcome) : (s.enterGuard t o).image = s.image := rfl
@[simp] theorem enterGuard_storeState (t : Txn) (o : TxnOutcome) : (s.enterGuard t o).storeState = s.storeState := rfl
@[simp] theorem enterGuard_imageBad (t : Txn) (o : TxnOutcome) : (s.enterGuard t o).imageBad = s.imageBad := rfl
@[simp] theorem enterGuard_snapshot (t : Txn) (o : TxnOutcome) : (s.enterGuard t o).snapshot = s.snapshot := rfl
@[simp] theorem enterGuard_storeTimer (t : Txn) (o : TxnOutcome) : (s.enterGuard t o).storeTimer = s.storeTimer := rfl
@[simp] theorem enterGuard_counters (t : Txn) (o : TxnOutcome) : (s.enterGuard t o).counters = s.counters := rfl
@[simp] theorem enterGuard_freeCount (t : Txn) (o : TxnOutcome) : (s.enterGuard t o).freeCount = s.freeCount := rfl
@[simp] theorem enterGuard_pending (t : Txn) (o : TxnOutcome) : (s.enterGuard t o).pending = s.pending := rfl
@[simp] theorem enterGuard_active (t : Txn) (o : TxnOutcome) : (s.enterGuard t o).active = s.active := rfl

/-! ### sendHeld: counters, slots and UP-QUEUE -/

@[simp] theorem sendHeld_now (k : SlotNo) (i : PodIx) (p : List Byte) : (s.sendHeld k i p).now = s.now :=
  by unfold State.sendHeld; split <;> rfl
@[simp] theorem sendHeld_held (k : SlotNo) (i : PodIx) (p : List Byte) : (s.sendHeld k i p).held = s.held :=
  by unfold State.sendHeld; split <;> rfl
@[simp] theorem sendHeld_trate (k : SlotNo) (i : PodIx) (p : List Byte) : (s.sendHeld k i p).trate = s.trate :=
  by unfold State.sendHeld; split <;> rfl
@[simp] theorem sendHeld_addrStrap (k : SlotNo) (i : PodIx) (p : List Byte) : (s.sendHeld k i p).addrStrap = s.addrStrap :=
  by unfold State.sendHeld; split <;> rfl
@[simp] theorem sendHeld_trunkPort (k : SlotNo) (i : PodIx) (p : List Byte) : (s.sendHeld k i p).trunkPort = s.trunkPort :=
  by unfold State.sendHeld; split <;> rfl
@[simp] theorem sendHeld_trunkQuiet (k : SlotNo) (i : PodIx) (p : List Byte) : (s.sendHeld k i p).trunkQuiet = s.trunkQuiet :=
  by unfold State.sendHeld; split <;> rfl
@[simp] theorem sendHeld_downQ (k : SlotNo) (i : PodIx) (p : List Byte) : (s.sendHeld k i p).downQ = s.downQ :=
  by unfold State.sendHeld; split <;> rfl
@[simp] theorem sendHeld_fieldPort (k : SlotNo) (i : PodIx) (p : List Byte) : (s.sendHeld k i p).fieldPort = s.fieldPort :=
  by unfold State.sendHeld; split <;> rfl
@[simp] theorem sendHeld_fieldQuiet (k : SlotNo) (i : PodIx) (p : List Byte) : (s.sendHeld k i p).fieldQuiet = s.fieldQuiet :=
  by unfold State.sendHeld; split <;> rfl
@[simp] theorem sendHeld_pods (k : SlotNo) (i : PodIx) (p : List Byte) : (s.sendHeld k i p).pods = s.pods :=
  by unfold State.sendHeld; split <;> rfl
@[simp] theorem sendHeld_zones (k : SlotNo) (i : PodIx) (p : List Byte) : (s.sendHeld k i p).zones = s.zones :=
  by unfold State.sendHeld; split <;> rfl
@[simp] theorem sendHeld_changeSet (k : SlotNo) (i : PodIx) (p : List Byte) : (s.sendHeld k i p).changeSet = s.changeSet :=
  by unfold State.sendHeld; split <;> rfl
@[simp] theorem sendHeld_alert (k : SlotNo) (i : PodIx) (p : List Byte) : (s.sendHeld k i p).alert = s.alert :=
  by unfold State.sendHeld; split <;> rfl
@[simp] theorem sendHeld_outputs (k : SlotNo) (i : PodIx) (p : List Byte) : (s.sendHeld k i p).outputs = s.outputs :=
  by unfold State.sendHeld; split <;> rfl
@[simp] theorem sendHeld_sweep (k : SlotNo) (i : PodIx) (p : List Byte) : (s.sendHeld k i p).sweep = s.sweep :=
  by unfold State.sendHeld; split <;> rfl
@[simp] theorem sendHeld_bank0 (k : SlotNo) (i : PodIx) (p : List Byte) : (s.sendHeld k i p).bank0 = s.bank0 :=
  by unfold State.sendHeld; split <;> rfl
@[simp] theorem sendHeld_bank1 (k : SlotNo) (i : PodIx) (p : List Byte) : (s.sendHeld k i p).bank1 = s.bank1 :=
  by unfold State.sendHeld; split <;> rfl
@[simp] theorem sendHeld_selector (k : SlotNo) (i : PodIx) (p : List Byte) : (s.sendHeld k i p).selector = s.selector :=
  by unfold State.sendHeld; split <;> rfl
@[simp] theorem sendHeld_image (k : SlotNo) (i : PodIx) (p : List Byte) : (s.sendHeld k i p).image = s.image :=
  by unfold State.sendHeld; split <;> rfl
@[simp] theorem sendHeld_storeState (k : SlotNo) (i : PodIx) (p : List Byte) : (s.sendHeld k i p).storeState = s.storeState :=
  by unfold State.sendHeld; split <;> rfl
@[simp] theorem sendHeld_imageBad (k : SlotNo) (i : PodIx) (p : List Byte) : (s.sendHeld k i p).imageBad = s.imageBad :=
  by unfold State.sendHeld; split <;> rfl
@[simp] theorem sendHeld_snapshot (k : SlotNo) (i : PodIx) (p : List Byte) : (s.sendHeld k i p).snapshot = s.snapshot :=
  by unfold State.sendHeld; split <;> rfl
@[simp] theorem sendHeld_storeTimer (k : SlotNo) (i : PodIx) (p : List Byte) : (s.sendHeld k i p).storeTimer = s.storeTimer :=
  by unfold State.sendHeld; split <;> rfl
@[simp] theorem sendHeld_freeCount (k : SlotNo) (i : PodIx) (p : List Byte) : (s.sendHeld k i p).freeCount = s.freeCount :=
  by unfold State.sendHeld; split <;> rfl
@[simp] theorem sendHeld_pending (k : SlotNo) (i : PodIx) (p : List Byte) : (s.sendHeld k i p).pending = s.pending :=
  by unfold State.sendHeld; split <;> rfl
@[simp] theorem sendHeld_active (k : SlotNo) (i : PodIx) (p : List Byte) : (s.sendHeld k i p).active = s.active :=
  by unfold State.sendHeld; split <;> rfl

/-! ### annotateReply: counters and slots -/

@[simp] theorem annotateReply_now (k : SlotNo) (i : PodIx) (p : List Byte) : (s.annotateReply k i p).now = s.now :=
  rfl
@[simp] theorem annotateReply_held (k : SlotNo) (i : PodIx) (p : List Byte) : (s.annotateReply k i p).held = s.held :=
  rfl
@[simp] theorem annotateReply_trate (k : SlotNo) (i : PodIx) (p : List Byte) : (s.annotateReply k i p).trate = s.trate :=
  rfl
@[simp] theorem annotateReply_addrStrap (k : SlotNo) (i : PodIx) (p : List Byte) : (s.annotateReply k i p).addrStrap = s.addrStrap :=
  rfl
@[simp] theorem annotateReply_trunkPort (k : SlotNo) (i : PodIx) (p : List Byte) : (s.annotateReply k i p).trunkPort = s.trunkPort :=
  rfl
@[simp] theorem annotateReply_trunkQuiet (k : SlotNo) (i : PodIx) (p : List Byte) : (s.annotateReply k i p).trunkQuiet = s.trunkQuiet :=
  rfl
@[simp] theorem annotateReply_downQ (k : SlotNo) (i : PodIx) (p : List Byte) : (s.annotateReply k i p).downQ = s.downQ :=
  rfl
@[simp] theorem annotateReply_upQ (k : SlotNo) (i : PodIx) (p : List Byte) : (s.annotateReply k i p).upQ = s.upQ :=
  rfl
@[simp] theorem annotateReply_fieldPort (k : SlotNo) (i : PodIx) (p : List Byte) : (s.annotateReply k i p).fieldPort = s.fieldPort :=
  rfl
@[simp] theorem annotateReply_fieldQuiet (k : SlotNo) (i : PodIx) (p : List Byte) : (s.annotateReply k i p).fieldQuiet = s.fieldQuiet :=
  rfl
@[simp] theorem annotateReply_pods (k : SlotNo) (i : PodIx) (p : List Byte) : (s.annotateReply k i p).pods = s.pods :=
  rfl
@[simp] theorem annotateReply_zones (k : SlotNo) (i : PodIx) (p : List Byte) : (s.annotateReply k i p).zones = s.zones :=
  rfl
@[simp] theorem annotateReply_changeSet (k : SlotNo) (i : PodIx) (p : List Byte) : (s.annotateReply k i p).changeSet = s.changeSet :=
  rfl
@[simp] theorem annotateReply_alert (k : SlotNo) (i : PodIx) (p : List Byte) : (s.annotateReply k i p).alert = s.alert :=
  rfl
@[simp] theorem annotateReply_outputs (k : SlotNo) (i : PodIx) (p : List Byte) : (s.annotateReply k i p).outputs = s.outputs :=
  rfl
@[simp] theorem annotateReply_sweep (k : SlotNo) (i : PodIx) (p : List Byte) : (s.annotateReply k i p).sweep = s.sweep :=
  rfl
@[simp] theorem annotateReply_bank0 (k : SlotNo) (i : PodIx) (p : List Byte) : (s.annotateReply k i p).bank0 = s.bank0 :=
  rfl
@[simp] theorem annotateReply_bank1 (k : SlotNo) (i : PodIx) (p : List Byte) : (s.annotateReply k i p).bank1 = s.bank1 :=
  rfl
@[simp] theorem annotateReply_selector (k : SlotNo) (i : PodIx) (p : List Byte) : (s.annotateReply k i p).selector = s.selector :=
  rfl
@[simp] theorem annotateReply_image (k : SlotNo) (i : PodIx) (p : List Byte) : (s.annotateReply k i p).image = s.image :=
  rfl
@[simp] theorem annotateReply_storeState (k : SlotNo) (i : PodIx) (p : List Byte) : (s.annotateReply k i p).storeState = s.storeState :=
  rfl
@[simp] theorem annotateReply_imageBad (k : SlotNo) (i : PodIx) (p : List Byte) : (s.annotateReply k i p).imageBad = s.imageBad :=
  rfl
@[simp] theorem annotateReply_snapshot (k : SlotNo) (i : PodIx) (p : List Byte) : (s.annotateReply k i p).snapshot = s.snapshot :=
  rfl
@[simp] theorem annotateReply_storeTimer (k : SlotNo) (i : PodIx) (p : List Byte) : (s.annotateReply k i p).storeTimer = s.storeTimer :=
  rfl
@[simp] theorem annotateReply_freeCount (k : SlotNo) (i : PodIx) (p : List Byte) : (s.annotateReply k i p).freeCount = s.freeCount :=
  rfl
@[simp] theorem annotateReply_pending (k : SlotNo) (i : PodIx) (p : List Byte) : (s.annotateReply k i p).pending = s.pending :=
  rfl
@[simp] theorem annotateReply_active (k : SlotNo) (i : PodIx) (p : List Byte) : (s.annotateReply k i p).active = s.active :=
  rfl

/-! ### forwardSample: what taking a reply changes, and slots -/

@[simp] theorem forwardSample_now (k : SlotNo) (i : PodIx) (p : List Byte) : (s.forwardSample k i p).now = s.now :=
  by unfold State.forwardSample; (repeat' split) <;> simp
@[simp] theorem forwardSample_held (k : SlotNo) (i : PodIx) (p : List Byte) : (s.forwardSample k i p).held = s.held :=
  by unfold State.forwardSample; (repeat' split) <;> simp
@[simp] theorem forwardSample_trate (k : SlotNo) (i : PodIx) (p : List Byte) : (s.forwardSample k i p).trate = s.trate :=
  by unfold State.forwardSample; (repeat' split) <;> simp
@[simp] theorem forwardSample_addrStrap (k : SlotNo) (i : PodIx) (p : List Byte) : (s.forwardSample k i p).addrStrap = s.addrStrap :=
  by unfold State.forwardSample; (repeat' split) <;> simp
@[simp] theorem forwardSample_trunkPort (k : SlotNo) (i : PodIx) (p : List Byte) : (s.forwardSample k i p).trunkPort = s.trunkPort :=
  by unfold State.forwardSample; (repeat' split) <;> simp
@[simp] theorem forwardSample_trunkQuiet (k : SlotNo) (i : PodIx) (p : List Byte) : (s.forwardSample k i p).trunkQuiet = s.trunkQuiet :=
  by unfold State.forwardSample; (repeat' split) <;> simp
@[simp] theorem forwardSample_downQ (k : SlotNo) (i : PodIx) (p : List Byte) : (s.forwardSample k i p).downQ = s.downQ :=
  by unfold State.forwardSample; (repeat' split) <;> simp
@[simp] theorem forwardSample_upQ (k : SlotNo) (i : PodIx) (p : List Byte) : (s.forwardSample k i p).upQ = s.upQ :=
  by unfold State.forwardSample; (repeat' split) <;> simp
@[simp] theorem forwardSample_fieldPort (k : SlotNo) (i : PodIx) (p : List Byte) : (s.forwardSample k i p).fieldPort = s.fieldPort :=
  by unfold State.forwardSample; (repeat' split) <;> simp
@[simp] theorem forwardSample_fieldQuiet (k : SlotNo) (i : PodIx) (p : List Byte) : (s.forwardSample k i p).fieldQuiet = s.fieldQuiet :=
  by unfold State.forwardSample; (repeat' split) <;> simp
@[simp] theorem forwardSample_bank0 (k : SlotNo) (i : PodIx) (p : List Byte) : (s.forwardSample k i p).bank0 = s.bank0 :=
  by unfold State.forwardSample; (repeat' split) <;> simp
@[simp] theorem forwardSample_bank1 (k : SlotNo) (i : PodIx) (p : List Byte) : (s.forwardSample k i p).bank1 = s.bank1 :=
  by unfold State.forwardSample; (repeat' split) <;> simp
@[simp] theorem forwardSample_selector (k : SlotNo) (i : PodIx) (p : List Byte) : (s.forwardSample k i p).selector = s.selector :=
  by unfold State.forwardSample; (repeat' split) <;> simp
@[simp] theorem forwardSample_image (k : SlotNo) (i : PodIx) (p : List Byte) : (s.forwardSample k i p).image = s.image :=
  by unfold State.forwardSample; (repeat' split) <;> simp
@[simp] theorem forwardSample_storeState (k : SlotNo) (i : PodIx) (p : List Byte) : (s.forwardSample k i p).storeState = s.storeState :=
  by unfold State.forwardSample; (repeat' split) <;> simp
@[simp] theorem forwardSample_imageBad (k : SlotNo) (i : PodIx) (p : List Byte) : (s.forwardSample k i p).imageBad = s.imageBad :=
  by unfold State.forwardSample; (repeat' split) <;> simp
@[simp] theorem forwardSample_snapshot (k : SlotNo) (i : PodIx) (p : List Byte) : (s.forwardSample k i p).snapshot = s.snapshot :=
  by unfold State.forwardSample; (repeat' split) <;> simp
@[simp] theorem forwardSample_storeTimer (k : SlotNo) (i : PodIx) (p : List Byte) : (s.forwardSample k i p).storeTimer = s.storeTimer :=
  by unfold State.forwardSample; (repeat' split) <;> simp
@[simp] theorem forwardSample_freeCount (k : SlotNo) (i : PodIx) (p : List Byte) : (s.forwardSample k i p).freeCount = s.freeCount :=
  by unfold State.forwardSample; (repeat' split) <;> simp
@[simp] theorem forwardSample_pending (k : SlotNo) (i : PodIx) (p : List Byte) : (s.forwardSample k i p).pending = s.pending :=
  by unfold State.forwardSample; (repeat' split) <;> simp
@[simp] theorem forwardSample_active (k : SlotNo) (i : PodIx) (p : List Byte) : (s.forwardSample k i p).active = s.active :=
  by unfold State.forwardSample; (repeat' split) <;> simp

/-! ### What a zone write does (R56) -/

/-- R56: a zone write that keeps the state writes the record and nothing else. -/
theorem putZone_same {z : ZoneIx} {r : ZoneRecord} (h : r.state = (tget s.zones z).state) :
    s.putZone z r = s.setZone z r := by
  simp [State.putZone, h]

/-- R56, R58, R60: a state change keeps its moment, joins the change set and recomputes the alert line. -/
theorem putZone_changed {z : ZoneIx} {r : ZoneRecord} (h : r.state ≠ (tget s.zones z).state) :
    s.putZone z r = { s with zones := tset s.zones z { r with lastChange := s.now },
                             changeSet := s.changeSet ||| zoneBit z,
                             alert := anyAlarm (tset s.zones z { r with lastChange := s.now }) } := by
  simp [State.putZone, h]

/-- A re-drive leaves an output whose zone set does not include the zone (R67). -/
theorem redrive_unmapped {z : ZoneIx} {o : OutIx} (h : (tget s.active.outputs o).zoneSet.getLsbD z.val = false) :
    tget (s.redrive z).outputs o = tget s.outputs o := by
  simp only [State.redrive, tget_tmap, h]
  rfl

/-- R69: a re-drive leaves an output that is IDLE or INHIBITED. -/
theorem redriveRecord_still {e : OutputEntry} {zones : Vector ZoneRecord 16} {r : OutputRecord}
    (h : r.state = .idle ∨ r.state = .inhibited) : redriveRecord e zones r = r := by
  simp [redriveRecord, h]

/-- TABLE 2-4: taking a reply touches one pod record. -/
theorem takeReply_pods (i : PodIx) (p : List Byte) :
    (s.takeReply i p).pods = tset s.pods i (takenRecord (s.podEntry i) s.now (tget s.pods i) p) := by
  unfold State.takeReply
  cases takingOf (s.podEntry i) (tget s.pods i) p <;> simp [State.enterCoverage, State.evaluatePodZone] <;>
    (repeat' split) <;> simp

end Sys2Proof.Machine
end

