-- ==== Sys2Proof/Laws/Outputs.lean ====
section
/-! SUPPORT. Which zones an output reads: a property of some mapped zone, said over the zone numbers; and what a RELEASE,
or the expiry of an on-time timer, and a re-drive that fall together leave. -/

namespace Sys2Proof.Machine

variable (e : OutputEntry) (zones : Vector ZoneRecord 16)

/-- Some mapped zone has a property exactly when some zone whose bit is in the zone set has it. -/
theorem mappedZones_any (p : ZoneRecord → Bool) :
    (mappedZones e zones).any p = (List.finRange 16).any fun z => e.zoneSet.getLsbD z.val && p (tget zones z) := by
  rw [mappedZones, List.any_filterMap]
  congr 1
  funext z
  cases e.zoneSet.getLsbD z.val <;> rfl

theorem mem_mappedZones {r : ZoneRecord} :
    r ∈ mappedZones e zones ↔ ∃ z : ZoneIx, e.zoneSet.getLsbD z.val = true ∧ tget zones z = r := by
  simp [mappedZones, List.mem_filterMap, List.mem_finRange]

/-! ### RELEASE and re-drive (R81) -/

@[simp] theorem redriveRecord_inhibited {r : OutputRecord} (h : r.state = .inhibited) : redriveRecord e zones r = r := by
  simp [redriveRecord, h]

/-- R81: from INHIBITED a RELEASE before the re-drive that a zone change causes, and one after it, leave the same state and
the same PARTIAL. Log entry 27 says what may differ. -/
theorem release_redrive_state (old new : Vector ZoneRecord 16) (now : Nat) {r : OutputRecord} (h : r.state = .inhibited) :
    let first := redriveRecord e new (releaseRecord e old now r)
    let last := releaseRecord e new now (redriveRecord e new r)
    first.state = last.state ∧ first.isPartial = last.isPartial := by
  simp only [redriveRecord_inhibited e new h, releaseRecord, h, if_true]
  cases hm : e.mode <;> cases ho : anySeen e old <;> cases hn : anySeen e new <;>
    simp [redriveRecord, recomputeLevel, recomputeProportional, periodStart, enterFailsafe, h, hm, ho, hn]

/-! ### On-time timer and re-drive (R180) -/

/-- R74, R76, R77, R180: where every mapped zone is blind, as a FIELD-RESTART leaves it, the expiry of an on-time timer and
the re-drive leave the same record in both orders. -/
theorem onTimeEnds_redrive_blind (r : OutputRecord) (hmode : e.mode = .proportional) (hduty : r.latched ≠ 100)
    (hblind : anySeen e zones = false) (hstate : r.state = .running ∨ r.state = .failsafe) :
    redriveRecord e zones (onTimeEnds e r) = onTimeEnds e (redriveRecord e zones r) := by
  cases r; cases hfail : e.failAction <;> rcases hstate with h | h <;> cases h <;>
    simp_all [redriveRecord, onTimeEnds, enterFailsafe, failPin, drivesCycle, OutputRecord.cycleLevel]

end Sys2Proof.Machine
end

