-- ==== Sys2Proof/Laws/Telegrams.lean ====
section
/-! SUPPORT. A telegram that the part builds is complete, good, and reads back as what it was built from. -/

namespace Sys2Proof.Machine

/-! ### The check pair (R92) -/

theorem checkStep_lt (ab : Nat × Nat) (c : Byte) : (checkStep ab c).1 < 255 ∧ (checkStep ab c).2 < 255 := by
  simp only [checkStep]
  omega

theorem foldl_checkStep_lt (cs : List Byte) :
    ∀ ab : Nat × Nat, ab.1 < 255 ∧ ab.2 < 255 → (cs.foldl checkStep ab).1 < 255 ∧ (cs.foldl checkStep ab).2 < 255 := by
  induction cs with
  | nil => exact fun _ h => h
  | cons c cs ih => exact fun ab _ => ih _ (checkStep_lt ab c)

/-- R91: a computed check character lies within 0..254. -/
theorem checkPair_lt (cs : List Byte) : (checkPair cs).1 < 255 ∧ (checkPair cs).2 < 255 :=
  foldl_checkStep_lt cs _ (by decide)

/-! ### Reading a built telegram -/

/-- The characters of a telegram before its check pair. -/
def bodyOf (addr kind : Byte) (p : List Byte) : List Byte := addr :: kind :: BitVec.ofNat 8 p.length :: p

theorem telegram_eq (addr kind : Byte) (p : List Byte) :
    telegram addr kind p = bodyOf addr kind p ++
      [BitVec.ofNat 8 (checkPair (bodyOf addr kind p)).1, BitVec.ofNat 8 (checkPair (bodyOf addr kind p)).2] := rfl

@[simp] theorem telegram_length (addr kind : Byte) (p : List Byte) : (telegram addr kind p).length = 5 + p.length := by
  simp [telegram, withCheck]
  omega

@[simp] theorem telegram_addr (addr kind : Byte) (p : List Byte) : charAt (telegram addr kind p) 0 = addr := rfl

@[simp] theorem telegram_kindOf (addr kind : Byte) (p : List Byte) : kindOf (telegram addr kind p) = kind := rfl

theorem telegram_lengthOf (addr kind : Byte) {p : List Byte} (h : p.length ≤ 255) :
    lengthOf (telegram addr kind p) = p.length := by
  simp only [lengthOf, telegram, withCheck, charAt, List.cons_append, List.getD_cons_succ, List.getD_cons_zero,
    BitVec.toNat_ofNat]
  omega

theorem telegram_payloadOf (addr kind : Byte) {p : List Byte} (h : p.length ≤ 255) :
    payloadOf (telegram addr kind p) = p := by
  rw [payloadOf, telegram_lengthOf addr kind h]
  simp [telegram, withCheck]

theorem bodyOf_length (addr kind : Byte) (p : List Byte) : (bodyOf addr kind p).length = 3 + p.length := by
  simp [bodyOf]
  omega

/-- R92, R95: a telegram that the part builds carries the check computed over it. -/
theorem telegram_isGood (addr kind : Byte) {p : List Byte} (h : p.length ≤ 255) : isGood (telegram addr kind p) = true := by
  have hb := bodyOf_length addr kind p
  have hlt := checkPair_lt (bodyOf addr kind p)
  have htake : (telegram addr kind p).take (3 + p.length) = bodyOf addr kind p := by
    rw [telegram_eq, ← hb, List.take_left']
    rfl
  have hA : charAt (telegram addr kind p) (3 + p.length) = BitVec.ofNat 8 (checkPair (bodyOf addr kind p)).1 := by
    rw [telegram_eq, charAt, ← hb, List.getD_append_right _ _ _ _ (Nat.le_refl _)]
    simp
  have hB : charAt (telegram addr kind p) (4 + p.length) = BitVec.ofNat 8 (checkPair (bodyOf addr kind p)).2 := by
    have e : 4 + p.length = (bodyOf addr kind p).length + 1 := by omega
    rw [telegram_eq, charAt, e, List.getD_append_right _ _ _ _ (Nat.le_succ _)]
    simp
  simp only [isGood, telegram_lengthOf addr kind h, htake, hA, hB, BitVec.toNat_ofNat, Bool.and_eq_true, beq_iff_eq]
  omega

/-- R91: a telegram with a payload of at most 32 characters is complete at its last character. -/
theorem telegram_complete (addr kind : Byte) {p : List Byte} (h : p.length ≤ 32) :
    assembly (telegram addr kind p) = .complete := by
  have hl := telegram_lengthOf addr kind (p := p) (by omega)
  simp only [assembly, hl, telegram_length]
  split
  · omega
  · split
    · omega
    · split
      · omega
      · rfl

/-! ### Address characters (R93) -/

@[simp] theorem addressOf_downChar (a : BitVec 7) : addressOf (downChar a) = a := by revert a; decide

@[simp] theorem addressOf_upChar (a : BitVec 7) : addressOf (upChar a) = a := by revert a; decide

@[simp] theorem isUp_downChar (a : BitVec 7) : isUp (downChar a) = false := by revert a; decide

@[simp] theorem isUp_upChar (a : BitVec 7) : isUp (upChar a) = true := by revert a; decide

/-! ### Bits on the line (R87) -/

@[simp] theorem characterBits_length (mark : Bool) (c : Byte) : (characterBits mark c).length = 11 := by
  simp [characterBits]

/-- R94: a telegram takes 11 bit times a character. -/
theorem telegramBits_length (t : List Byte) : (telegramBits t).length = 11 * t.length := by
  cases t with
  | nil => rfl
  | cons c rest =>
    simp [telegramBits, List.length_flatMap]
    omega

/-- R91, R92: the sums over one character more. -/
theorem checkPair_snoc (cs : List Byte) (c : Byte) : checkPair (cs ++ [c]) = checkStep (checkPair cs) c := by
  simp [checkPair]

/-! ### Fields -/

@[simp] theorem num1_length (n : Nat) : (num1 n).length = 1 := rfl

@[simp] theorem num2_length (n : Nat) : (num2 n).length = 2 := rfl

@[simp] theorem signed2_length (i : Int) : (signed2 i).length = 2 := rfl

@[simp] theorem signedOpt_length (i : Option Int) : (signedOpt i).length = 2 := by cases i <;> rfl

@[simp] theorem num2Opt_length (n : Option Nat) : (num2Opt n).length = 2 := by cases n <;> rfl

end Sys2Proof.Machine
end

