-- ==== Sys2Proof/Laws/Requests.lean ====
section
/-! SUPPORT. What the arrival of a request can do: found LISTENING with a FREE slot it is answered; with no FREE slot it
is counted; over a transmission it is lost; over a telegram it is taken as though that had been abandoned. -/

namespace Sys2Proof.Machine

/-! ### The part's own address (R137) -/

theorem ownAddr_ne_127 (s : State) : s.ownAddr ≠ 127 := by
  have h : ∀ a : BitVec 6, (if a = 63 then 126 else 64 + a.setWidth 7 : BitVec 7) ≠ 127 := by decide
  exact h s.addrStrap

/-- R139: a mark character to the own address is not discarded. -/
theorem own_not_discarded (s : State) : ¬(isUp (downChar s.ownAddr) = true ∨ addressOf (downChar s.ownAddr) = 127) := by
  simpa using ownAddr_ne_127 s

/-! ### The arrival -/

/-- The state in which the management agent takes a request that was granted a slot: its last character has ended, the
slot holds it, and it is counted (R107, R141). -/
def State.requestHeld (s : State) (k : SlotNo) (kind : Byte) (p : List Byte) : State :=
  ((s.touchTrunk.fillSlot k (telegram (downChar s.ownAddr) kind p)).setTrunk
    (.receiving k (s.now + 3 * s.trunkChar))).count .trunkGood

theorem offerTrunk_own {s : State} {k : SlotNo} (h : s.grant = some k) :
    s.offerTrunk (downChar s.ownAddr) =
      (s.fillSlot k [downChar s.ownAddr]).setTrunk (.receiving k (s.now + 3 * s.trunkChar)) := by
  unfold State.offerTrunk
  rw [if_neg (own_not_discarded s), h]

theorem offerTrunk_own_none {s : State} (h : s.grant = none) :
    s.offerTrunk (downChar s.ownAddr) = s.count .trunkNoSlot := by
  unfold State.offerTrunk
  rw [if_neg (own_not_discarded s), h]

/-- R107, R141: a complete good telegram to the own address is counted and answered in its slot. -/
theorem completeTrunk_own {s : State} {k : SlotNo} {kind : Byte} {p : List Byte} (hl : p.length ≤ 32)
    (h : s.slot k = telegram (downChar s.ownAddr) kind p) :
    s.completeTrunk k = (s.count .trunkGood).answerRequest k kind p := by
  simp [State.completeTrunk, h, telegram_isGood _ _ (show p.length ≤ 255 by omega),
    telegram_payloadOf _ _ (show p.length ≤ 255 by omega)]

/-- R101, R107, R141: a request that finds the port LISTENING and is granted a slot is answered in it. -/
theorem requestArrives_ready {s : State} {k : SlotNo} (hp : s.trunkPort = .listening) (hg : s.grant = some k)
    (kind : Byte) {p : List Byte} (hl : p.length ≤ 32) :
    s.requestArrives kind p = (s.requestHeld k kind p).answerRequest k kind p := by
  have hm : s.trunkMark (downChar s.ownAddr) true =
      (s.touchTrunk.fillSlot k [downChar s.ownAddr]).setTrunk (.receiving k (s.now + 3 * s.trunkChar)) := by
    simp only [State.trunkMark, hp, if_true]
    exact offerTrunk_own (s := s.touchTrunk) hg
  have hw : ((s.touchTrunk.fillSlot k [downChar s.ownAddr]).setTrunk (.receiving k (s.now + 3 * s.trunkChar))).fillSlot k
      (telegram (downChar s.ownAddr) kind p) =
      (s.touchTrunk.fillSlot k (telegram (downChar s.ownAddr) kind p)).setTrunk
        (.receiving k (s.now + 3 * s.trunkChar)) := by
    have hone : [downChar s.ownAddr].length ≤ (telegram (downChar s.ownAddr) kind p).length := by simp; omega
    exact congrArg (·.setTrunk (.receiving k (s.now + 3 * s.trunkChar)))
      (fillSlot_fillSlot (s := s.touchTrunk) k hone)
  have hlen : ¬ 32 < p.length := by omega
  simp only [State.requestArrives, hm, setTrunk_trunkPort, hlen, if_false, hw]
  exact completeTrunk_own hl (fillSlot_slot s.touchTrunk k _)

/-- R112, R139: with no FREE slot a request is lost at its mark character, and counted. -/
theorem requestArrives_noSlot {s : State} (hp : s.trunkPort = .listening) (hg : s.grant = none) (kind : Byte)
    (p : List Byte) : s.requestArrives kind p = s.touchTrunk.count .trunkNoSlot := by
  have hm : s.trunkMark (downChar s.ownAddr) true = s.touchTrunk.count .trunkNoSlot := by
    simp only [State.trunkMark, hp, if_true]
    exact offerTrunk_own_none (s := s.touchTrunk) hg
  simp only [State.requestArrives, hm]
  simp [State.count, State.touchTrunk, hp]

/-- R143: the receiver does not listen while the part transmits. -/
theorem requestArrives_transmitting {s : State} {k : SlotNo} {e : Nat} (hp : s.trunkPort = .transmitting k e) (kind : Byte)
    (p : List Byte) : s.requestArrives kind p = s := by
  simp [State.requestArrives, State.trunkMark, hp]

/-- R140: a request that interrupts a telegram is taken as though that telegram had been abandoned before it. -/
theorem requestArrives_receiving {s : State} {k : SlotNo} {g : Nat} (hp : s.trunkPort = .receiving k g) (kind : Byte)
    (p : List Byte) : s.requestArrives kind p = s.abandonTrunk.requestArrives kind p := by
  have h : s.trunkMark (downChar s.ownAddr) true = s.abandonTrunk.trunkMark (downChar s.ownAddr) true := by
    simp only [State.trunkMark, hp, if_true]
    rfl
  have ho : s.abandonTrunk.ownAddr = s.ownAddr := rfl
  simp only [State.requestArrives, ho, h]

end Sys2Proof.Machine
end

