-- ==== Sys2Proof/Tests/Slice0.lean ====
section
/-! SUPPORT. Tests: ill-formed commands refused, worked cases of the spec, one or two events of each kind, and witnesses
for the hypotheses of the statements. -/

namespace Sys2Proof.Tests

open Sys2Proof.Machine Sys2Proof.Stated

set_option Elab.async false

/-! ## Ill-formed commands -/

/-- A payload of 33 characters, one more than a telegram carries. -/
def overlong : List Byte := List.replicate 33 0

theorem test_illformed_identify : (Instr.identify 0 overlong).wellFormed = false := by decide
theorem test_illformed_readStatus : (Instr.readStatus 0 overlong).wellFormed = false := by decide
theorem test_illformed_readZone : (Instr.readZone 0 overlong).wellFormed = false := by decide
theorem test_illformed_readPod : (Instr.readPod 0 overlong).wellFormed = false := by decide
theorem test_illformed_readEntry : (Instr.readEntry 0 overlong).wellFormed = false := by decide
theorem test_illformed_writePodEntry : (Instr.writePodEntry 0 overlong).wellFormed = false := by decide
theorem test_illformed_writeZoneEntry : (Instr.writeZoneEntry 0 overlong).wellFormed = false := by decide
theorem test_illformed_writeOutputEntry : (Instr.writeOutputEntry 0 overlong).wellFormed = false := by decide
theorem test_illformed_writeSweepList : (Instr.writeSweepList 0 overlong).wellFormed = false := by decide
theorem test_illformed_writeFieldSettings : (Instr.writeFieldSettings 0 overlong).wellFormed = false := by decide
theorem test_illformed_copyActive : (Instr.copyActive 0 overlong).wellFormed = false := by decide
theorem test_illformed_swap : (Instr.swap 0 overlong).wellFormed = false := by decide
theorem test_illformed_store : (Instr.store 0 overlong).wellFormed = false := by decide
theorem test_illformed_readCounters : (Instr.readCounters 0 overlong).wellFormed = false := by decide
theorem test_illformed_fieldRestart : (Instr.fieldRestart 0 overlong).wellFormed = false := by decide
theorem test_illformed_badKind_payload : (Instr.badKind 0 0x70 overlong).wellFormed = false := by decide
theorem test_illformed_badKind_lowest : (Instr.badKind 0 0x50 []).wellFormed = false := by decide
theorem test_illformed_badKind_highest : (Instr.badKind 0 0x60 []).wellFormed = false := by decide
theorem test_wellformed_longest :
    (Instr.readStatus 0 (List.replicate 32 0)).wellFormed = true ∧ (Instr.badKind 0 0x4F []).wellFormed = true ∧
    (Instr.badKind 0 0x61 []).wellFormed = true := by decide

/-! ## Worked cases of the spec -/

/-- TABLE 1-5. -/
theorem test_table_1_5 :
    corrected 2150 0 (-20) = 2130 ∧ corrected 5500 41 0 = 5555 ∧ saturation 2130 = 2554 ∧
    vapourPressure 2130 5555 = 1418 ∧ dewPoint 2130 5555 = { dew := 1199, dry := false, below := false } := by
  decide +kernel

/-- TABLE 1-6. -/
theorem test_table_1_6 :
    clampTemp (corrected 1024 (-2) 0) = (1023, false) ∧ clampTemp (corrected (-1024) (-2) 0) = (-1000, true) ∧
    clampRh (corrected 10400 (-512) 0) = (9100, false) ∧ clampRh (corrected 0 0 (-500)) = (0, true) ∧
    clampTemp (corrected 32767 511 500) = (5000, true) ∧ clampTemp (corrected 5000 0 0) = (5000, false) := by
  decide +kernel

/-- TABLE 1-7. -/
theorem test_table_1_7 :
    filtered true 2 (some 1870) 2130 = 2130 ∧ filtered false 2 (some 2130) 2210 = 2150 ∧
    filtered false 2 (some 2150) 2151 = 2150 ∧ filtered false 2 (some 2150) 2152 = 2151 ∧
    filtered false 2 (some 2151) 2090 = 2136 ∧ filtered false 2 (some 2136) 2134 = 2135 ∧
    filtered false 2 (some 2135) 2134 = 2135 := by
  decide +kernel

/-- TABLE 1-8. -/
theorem test_table_1_8 :
    [-1000, 1499, 1500, 2130, 4999, 5000].map (fun t => (saturation t, (dewPoint t 10000).dew)) =
      [(286, -1000), (1704, 1498), (1705, 1500), (2554, 2129), (12344, 4998), (12350, 5000)] := by
  decide +kernel

/-- TABLE 1-9. -/
theorem test_table_1_9 :
    [(1800, 80), (2130, 99), (2130, 100), (2130, 1000), (-800, 3000), (-1000, 9999), (-1000, 10000)].map
        (fun p => dewPoint p.1 p.2) =
      [{ dew := -1000, dry := true, below := false }, { dew := -1000, dry := true, below := false },
        { dew := -1000, dry := false, below := true }, { dew := -1000, dry := false, below := true },
        { dew := -1000, dry := false, below := true }, { dew := -1000, dry := false, below := true },
        { dew := -1000, dry := false, below := false }] := by
  decide +kernel

/-- TABLE 5-7a and TABLE 5-7b. -/
theorem test_table_5_7 :
    telegram (downChar 17) 0x21 [] = [17, 33, 0, 50, 117] ∧
    telegram (upChar 17) 0x21 [0, 40, 102, 8, 124, 21] = [145, 33, 6, 0, 40, 102, 8, 124, 21, 224, 217] := by
  decide +kernel

/-- R92: an image or a telegram with a check character of 255 is never good. -/
theorem test_check_255 : isGood [17, 33, 0, 255, 117] = false ∧ imageValid deliveredImage = false := by decide +kernel

/-- TABLE 3-7: the state steps of one zone through its worked sequence. -/
theorem test_table_3_7 :
    let e : ZoneEntry := { enabled := true, watch := 500, warn := 300, alarm := 100, hysteresis := 50, escDelay := 60,
                           relDelay := 300 }
    let at_ (t : Nat) (m : Int) (r : ZoneRecord) := stateStep e (sec t) m r
    let z0 := at_ 0 620 { resetZone true with state := .blind }
    let z10 := at_ 10 480 z0
    let z40 := at_ 40 260 z10
    let z70 := atRest .warn z40
    let z230 := at_ 230 90 z70
    let z500 := at_ 500 600 (at_ 380 160 (atRest .alarm z230))
    z0.state = .risk .clear ∧ z10.timer = .escalation (sec 70) ∧ z10.target = some .watch ∧
    z40.timer = .escalation (sec 70) ∧ z40.target = some .warn ∧ (at_ 100 320 z70).timer = .none ∧
    (at_ 130 360 z70).timer = .release (sec 430) ∧ (at_ 200 340 (at_ 130 360 z70)).timer = .none ∧
    z230.timer = .escalation (sec 290) ∧ (at_ 250 140 z230).timer = .none ∧
    z500.timer = .release (sec 680) ∧ z500.target = some .clear := by
  decide +kernel

/-- TABLE 4-4. -/
theorem test_table_4_4 :
    [450, 400, 399, 250, 220, 101, 100, -300].map
        (demandAt { mode := .proportional, zoneSet := 4, level := .alarm, onset := 400, full := 100, period := 10,
                    failAction := .hold }) =
      [0, 0, 0, 50, 60, 99, 100, 100] := by
  decide +kernel

/-- TABLE 10-7. -/
theorem test_table_10_7 :
    let l0 : List (Option PodIx) := [podOf 5, podOf 9, podOf 5, podOf 12, podOf 14]
    let l1 := writtenList l0 3 4 [podOf 20]
    let l2 := writtenList l1 4 6 [podOf 21]
    l1.map podNum = [5, 9, 5, 20] ∧ l2.map podNum = [5, 9, 5, 20, 21, 0] ∧ listWriteRefused 8 6 [podOf 22] = true ∧
    listWriteRefused 5 6 [podOf 23, podOf 24] = false ∧
    (writtenList l2 5 6 [podOf 23, podOf 24]).map podNum = [5, 9, 5, 20, 21, 23] := by
  decide +kernel

/-! ## Small states -/

/-- Pod 17, AIR, and pod 30, SURFACE, in zone 3, with a LEVEL and a PROPORTIONAL output and a sweep of three places. -/
def bankA : Bank :=
  { pods := tset (tset (tconst 63 factoryPodEntry) 16
      { factoryPodEntry with role := .air, zone := some 2, airOffset := -20, rhGain := 41, substitute := true,
                             annotate := true })
      29 { factoryPodEntry with role := .surface, zone := some 2 },
    zones := tset (tconst 16 factoryZoneEntry) 2 { factoryZoneEntry with enabled := true },
    outputs := tset (tset (tconst 4 factoryOutputEntry) 0
      { factoryOutputEntry with mode := .level, zoneSet := 4, failAction := .hold })
      1 { factoryOutputEntry with mode := .proportional, zoneSet := 4 },
    sweepList := [some 16, some 29, some 16],
    program := { startMode := .rounds, rounds := 1, startDelay := 0, pace := 1000 },
    field := { rate := .b9600, window := 100 } }

/-- The part with `bankA` active in both banks, 75 s after pod 17's reply; zone 3 at WARN with margin 151. -/
def live : State :=
  { State.reset with
      now := sec 75, bank0 := bankA, bank1 := bankA,
      pods := tset (tset (tconst 63 neverPod) 16
        { neverPod with freshness := .fresh, lastSeq := some 40, payload := some [0, 40, 102, 8, 124, 21],
                        airTemp := some 2130, rh := some 5555, dewPoint := some 1199, lastReply := some 0,
                        deadline := some (sec 120), sampleCount := 1 })
        29 { neverPod with freshness := .fresh, lastSeq := some 7, payload := some [0, 7, 70, 5], surfTemp := some 1350,
                           lastReply := some (sec 75), deadline := some (sec 195), sampleCount := 1 },
      zones := tset (tconst 16 (resetZone false)) 2
        { state := .risk .warn,
          values := some { dew := 1199, surface := 1350, margin := 151, worstDew := 16, coldestSurf := 29 },
          airCount := 1, surfCount := 1, target := none, timer := .none, lastChange := sec 75 },
      changeSet := 4,
      outputs := tset (tset (tconst 4 idleOutput) 0 { idleOutput with state := .running })
        1 { state := .running, pin := true, demand := 83, latched := 50, periodTimer := some (sec 80),
            onTimer := some (sec 78), isPartial := false },
      sweep := { idleSweep with state := .running, position := 2, rounds := 1, due := true } }

/-- Zone 3 with an escalation timer toward ALARM. -/
def escalating : State :=
  live.setZone 2 { tget live.zones 2 with target := some .alarm, timer := .escalation (sec 80) }

/-- Slot 0 in AWAITING of a head-end SAMPLE-ASK to pod 17. -/
def awaiting : State :=
  (live.setSweep idleSweep).setField
    (.busy { target := 17, origin := .trunk, isSample := true, expectsReply := true, rate := .b9600, window := 100,
             outcome := none } (.awaiting (sec 76) 0))

/-- The same with pod 17's reply of TABLE 5-7b received but for its last check character, and annotate on. -/
def receiving : State :=
  ((live.setSweep idleSweep).fillSlot 0 [145, 33, 6, 0, 41, 102, 8, 124, 21, 225]).setField
    (.busy { target := 17, origin := .trunk, isSample := true, expectsReply := true, rate := .b9600, window := 100,
             outcome := none } (.receiving (sec 76) 0))

/-- Fifteen slots queued upward. -/
def crowded : State := { live with upQ := (List.finRange 15).map fun i => ⟨i.val, by omega⟩ }

/-- Every slot queued upward. -/
def full : State := { live with upQ := List.finRange 16 }

/-- The state that a command leaves. -/
def after (c : Instr) (s : State) : State :=
  match exec c s with
  | .next t => t
  | _ => State.reset

/-- The telegram of a slot after a command. -/
def reply (c : Instr) (s : State) (k : SlotNo) : List Byte := (after c s).slot k

/-- Everything Safety.lean asks. -/
def lawful (s : State) : Bool :=
  decide s.podsLawful && decide s.zonesLawful && decide s.alertLawful && decide s.outputsLawful &&
  decide s.sweepLawful && decide s.banksLawful && decide s.storeLawful && decide s.slotsConserved &&
  decide s.telegramsLawful && decide s.countersLawful && decide s.timeLawful && s.txnLawful

/-! ## Events -/

theorem test_live_lawful : lawful live = true := by decide +kernel
theorem test_escalating_lawful : lawful escalating = true := by decide +kernel
theorem test_awaiting_lawful : lawful awaiting = true := by decide +kernel
theorem test_receiving_lawful : lawful receiving = true := by decide +kernel

theorem test_fullReset : (after (.fullReset 5) live).outputs.toList.all (fun r => !r.pin) = true ∧
    (after (.fullReset 5) live).held = true := by decide +kernel

theorem test_startUp_delivered : after (.startUp 0 0) live = State.reset := by decide +kernel

/-- A start-up from a valid image loads it and starts its sweep at once. -/
theorem test_startUp_image :
    let t := after (.startUp 3 63) { live with image := sealedImage bankA }
    t.bank1 = bankA ∧ t.imageBad = false ∧ t.ownAddr = 126 ∧ t.trunkRate = .b57600 ∧ t.sweep.due = true ∧
    (tget t.zones 2).state = .blind ∧ (tget t.outputs 1).pin = true ∧
    (tget t.outputs 1).periodTimer = some (sec 10) ∧ lawful t = true := by
  decide +kernel

theorem test_trunkMark_accepts : (after (.trunkMarkCharacter 5 17 true) live).trunkPort =
    .receiving 0 (sec 75 + 5 + 3 * 42240) := by decide +kernel

/-- R142: with UP-QUEUE waiting and the trunk quiet since 2 character times no time may pass; before that, up to there. -/
theorem test_first_moment :
    let s := { crowded with trunkQuiet := sec 75 }
    crowded.transmissionMoment = some (2 * 42240) ∧ ¬ crowded.startsTimely 1 ∧ crowded.startsTimely 0 ∧
    s.startsTimely (2 * 42240) ∧ ¬ s.startsTimely (2 * 42240 + 1) ∧ live.txnMoment = some (2 * 42240) ∧
    { live with sweep := idleSweep }.startsTimely (sec 9) := by decide +kernel

theorem test_trunkMark_discards : (after (.trunkMarkCharacter 5 145 true) live).counter .trunkDiscarded = 1 := by
  decide +kernel

/-- TABLE 5-7a, character by character, joins DOWN-QUEUE. -/
theorem test_trunkData :
    (match runAll live (.trunkMarkCharacter 5 17 true ::
        ([33, 0, 50, 117].map fun c => .trunkDataCharacter 42240 c true)) with
    | .next t => (t.downQ, t.slot 0, t.counter .trunkGood, t.trunkPort)
    | _ => ([], [], 0, .listening)) = ([0], [17, 33, 0, 50, 117], 1, .listening) := by
  decide +kernel

theorem test_gap_trunk :
    (after (.gapTimerExpiry (3 * 42240) .trunk) (after (.trunkMarkCharacter 5 17 true) live)).counter .trunkFraming =
      1 := by decide +kernel

theorem test_gap_field :
    (after (.gapTimerExpiry (sec 1) .field) receiving).counter .fieldBad = 1 ∧
    (after (.gapTimerExpiry (sec 1) .field) receiving).counter .fieldMisses = 1 := by decide +kernel

theorem test_transmission :
    let t := after (.trunkTransmissionStart 0) crowded
    t.trunkPort.txSlot = some 0 ∧ t.trkDe = true ∧
    (after (.trunkTransmissionEnd 0) t).trunkPort = .listening := by decide +kernel

theorem test_field_start_sweep :
    let t := after (.fieldTransactionStart 0) live
    t.slot 0 = telegram 17 0x21 [] ∧ t.sweep.state = .idle ∧ t.sweep.done = true ∧ t.sweep.position = 0 ∧
    t.fldDe = true ∧ lawful t = true := by decide +kernel

theorem test_field_start_headEnd :
    let t := after (.fieldTransactionStart 0) { live.fillSlot 3 (telegram 0 0x40 []) with downQ := [3] }
    t.fieldPort.txnSlot = some 3 ∧ t.downQ = [] ∧ t.sweep.due = true := by decide +kernel

theorem test_sending_end_awaits :
    let t := after (.fieldSendingEnd (5 * 42240)) (after (.fieldTransactionStart 0) live)
    FieldPort.code t.fieldPort = 2 ∧ t.counter .fieldPolls = 1 := by decide +kernel

theorem test_sending_end_broadcast :
    let t := after (.fieldSendingEnd (5 * 42240))
      (after (.fieldTransactionStart 0) { live.fillSlot 3 (telegram 0 0x40 []) with downQ := [3] })
    FieldPort.code t.fieldPort = 4 ∧ t.freeSlots.length = 16 ∧ t.counter .fieldPolls = 0 := by decide +kernel

theorem test_field_mark_accepts :
    (after (.fieldMarkCharacter 9 145 true) awaiting).slot 0 = [145] ∧
    FieldPort.code (after (.fieldMarkCharacter 9 145 true) awaiting).fieldPort = 3 ∧
    FieldPort.code (after (.fieldMarkCharacter 9 17 true) awaiting).fieldPort = 2 := by decide +kernel

/-- R109: the reply is written over the request from position 0; cut short it leaves a mixture. -/
theorem test_slot_mixture :
    let s := after (.fieldSendingEnd (5 * 42240)) (after (.fieldTransactionStart 0) live)
    let t := after (.fieldMarkCharacter 9 145 true) s
    let u := after (.gapTimerExpiry (sec 1) .field) (after (.fieldDataCharacter 9 7 true) t)
    (tget s.slots 0).text = [17, 33, 0, 50, 117] ∧ (tget t.slots 0).text = [145] ∧
    (tget t.slots 0).beyond.take 5 = [33, 0, 50, 117, 0] ∧ (tget u.slots 0).text = [145, 7] ∧
    (tget u.slots 0).beyond.take 4 = [0, 50, 117, 0] ∧ FieldPort.code u.fieldPort = 4 := by decide +kernel

theorem test_field_mark_interrupts :
    let t := after (.fieldMarkCharacter 9 145 true) receiving
    t.counter .fieldBad = 1 ∧ t.counter .fieldUnsolicited = 1 ∧ t.counter .substitutes = 1 := by decide +kernel

/-- TABLE 5-7c with a new sequence: the reply is taken and forwarded with the annotation of zone 3. -/
theorem test_field_data_annotates :
    let t := after (.fieldDataCharacter 9 222 true) receiving
    t.upQ = [0] ∧ t.slot 0 = telegram 145 0x21 [0, 41, 102, 8, 124, 21, 3, 4, 175, 4, 151, 0] ∧
    t.counter .fieldReplies = 1 ∧ t.counter .annotated = 1 ∧ (tget t.pods 16).sampleCount = 2 ∧
    (tget t.pods 16).interval = some 750 ∧ lawful t = true := by decide +kernel

/-- Section 5.9: a held reply of age 75, here with its annotation. -/
theorem test_window_held :
    let t := after (.replyWindowExpiry 0) (awaiting.elapse (sec 1))
    t.slot 0 = telegram 145 0x23 [2, 40, 102, 8, 124, 21, 76, 0, 3, 4, 175, 4, 151, 0] ∧
    t.counter .substitutes = 1 ∧ (tget t.pods 16).missCount = 1 ∧ lawful t = true := by decide +kernel

theorem test_guard :
    let t := after (.replyWindowExpiry (sec 1)) awaiting
    FieldPort.code (after (.guardTimerExpiry (4 * 42240)) t).fieldPort = 0 ∧
    FieldPort.code (after (.guardTimerExpiry (4 * 42240 - 1)) t).fieldPort = 4 := by decide +kernel

theorem test_stale :
    let t := after (.staleDeadlineExpiry (sec 45) 16) live
    (tget t.pods 16).freshness = .stale ∧ (tget t.zones 2).state = .blind ∧ t.changeSet = 4 ∧
    (tget t.outputs 0).state = .failsafe ∧ (tget t.outputs 1).pin = true ∧ lawful t = true := by decide +kernel

theorem test_zoneTimer :
    let t := after (.zoneTimerExpiry (sec 5) 2) escalating
    (tget t.zones 2).state = .risk .alarm ∧ t.alert = true ∧ (tget t.outputs 0).pin = true ∧ lawful t = true := by
  decide +kernel

theorem test_onTime : (tget (after (.onTimeTimerExpiry (sec 3) 1) live).outputs 1).pin = false := by decide +kernel

theorem test_period :
    let r := tget (after (.periodTimerExpiry (sec 5) 1) live).outputs 1
    r.latched = 83 ∧ r.periodTimer = some (sec 90) ∧ r.onTimer = some (sec 80 + ms 8300) ∧ r.pin = true := by
  decide +kernel

theorem test_identify : reply (.identify 0 []) live 0 =
    telegram 192 0x50 [0, 0x88, 0x0C, 2, 0, 64, 0, 0] := by decide +kernel

theorem test_readStatus :
    reply (.readStatus 0 []) live 0 =
      telegram 192 0x51 [0, 0, 0, 1, 2, 0, 1, 2, 0, 15, 0, 4, 0, 0, 0, 0, 0, 0, 4, 0] ∧
    (after (.readStatus 0 []) live).changeSet = 0 := by decide +kernel

theorem test_readZone : reply (.readZone (ticksPerMs * 1500) [3]) live 0 =
    telegram 192 0x52 [0, 3, 4, 175, 4, 70, 5, 151, 0, 17, 30, 1, 1, 0, 0, 0, 0, 1, 0] := by decide +kernel

theorem test_readPod : reply (.readPod 0 [17]) live 0 =
    telegram 192 0x53 [0, 17, 1, 1, 64, 40, 82, 8, 179, 21, 0, 128, 175, 4, 255, 255, 0, 1, 0, 75, 0] := by
  decide +kernel

theorem test_readEntry :
    reply (.readEntry 0 [1, 1, 3]) live 0 = telegram 192 0x54 [0, 1, 244, 1, 44, 1, 100, 0, 50, 0, 60, 0, 44, 1] ∧
    reply (.readEntry 0 [0, 3, 64]) live 0 = telegram 192 0x54 [4] := by decide +kernel

theorem test_writePodEntry :
    let t := after (.writePodEntry 0 [63, 2, 16, 0, 0, 0, 0, 0, 0, 0, 0, 255, 255, 1, 0, 9, 1, 0, 3]) live
    t.slot 0 = telegram 192 0x55 [1] ∧ (tget t.shadow.pods 62).surfGain = -1 ∧ (tget t.shadow.pods 62).weight = 4 ∧
    (tget t.shadow.pods 62).staleLimit = 2 ∧ (tget t.shadow.pods 62).zone = some 15 ∧ t.active = bankA := by
  decide +kernel

theorem test_writeZoneEntry :
    let t := after (.writeZoneEntry 0 [1, 1, 184, 11, 185, 11, 0, 0, 0, 0, 0, 0, 0, 0]) live
    t.slot 0 = telegram 192 0x56 [1] ∧ (tget t.shadow.zones 0).watch = 3000 ∧ (tget t.shadow.zones 0).warn = 3000 := by
  decide +kernel

theorem test_writeOutputEntry :
    reply (.writeOutputEntry 0 [4, 0, 0, 0, 7, 0, 0, 0, 0, 10, 0]) live 0 = telegram 192 0x57 [4] ∧
    reply (.writeOutputEntry 0 [4, 0, 0, 0, 5, 0, 0, 0, 0, 10, 0]) live 0 = telegram 192 0x57 [0] := by decide +kernel

theorem test_writeSweepList :
    let t := after (.writeSweepList 0 [1, 4, 30, 17]) live
    t.slot 0 = telegram 192 0x58 [0] ∧ t.shadow.sweepList.map podNum = [17, 30, 17, 0] := by decide +kernel

theorem test_writeFieldSettings :
    let t := after (.writeFieldSettings 0 [3, 19, 0, 2, 0, 0, 0, 232, 3]) live
    t.slot 0 = telegram 192 0x59 [1] ∧ t.shadow.field = { rate := .b57600, window := 20 } ∧
    t.shadow.program = { startMode := .continuous, rounds := 1, startDelay := 0, pace := 1000 } := by decide +kernel

theorem test_copyActive : (after (.copyActive 0 []) { live with bank1 := factoryBank }).bank1 = bankA := by
  decide +kernel

/-- A swap to the same configuration flips, cancels zone timers and restarts proportional periods (R167). -/
theorem test_swap :
    let t := after (.swap 0 []) escalating
    t.slot 0 = telegram 192 0x5B [0, 1] ∧ t.selector = .one ∧ (tget t.zones 2).timer = .none ∧
    (tget t.outputs 1).periodTimer = some (sec 85) ∧ t.sweep.position = 0 ∧ lawful t = true := by decide +kernel

theorem test_swap_refused :
    reply (.swap 0 []) { live with bank1 := { bankA with sweepList := [some 16, none] } } 0 =
      telegram 192 0x5B [6, 9, 1] := by decide +kernel

theorem test_sweepControl :
    (after (.sweepControlStop 0) live).sweep.state = .held ∧
    (after (.sweepControlResume 0) (after (.sweepControlStop 0) live)).sweep.due = true ∧
    (after (.sweepControlStart 0) live).sweep.position = 0 ∧
    reply (.sweepControlResume 0) live 0 = telegram 192 0x5C [4] ∧
    reply (.sweepControlStart 0) State.reset 0 = telegram 192 0x5C [4] := by decide +kernel

theorem test_delayTimer :
    (after (.delayTimerExpiry (sec 2)) (live.setSweep { live.sweep with
      state := .delaying, due := false, delayTimer := some (sec 77) })).sweep.due = true := by decide +kernel

theorem test_paceTimer :
    let s := live.setSweep { live.sweep with due := false, paceTimer := some (sec 77) }
    (after (.paceTimerExpiry (sec 2)) s).sweep.due = true ∧
    (after (.paceTimerExpiry (sec 2 - 1)) s).sweep.due = false := by decide +kernel

theorem test_outputControl :
    let t := after (.outputControlInhibit 0 2) live
    t.slot 0 = telegram 192 0x5D [0, 2, 2, 0, 83, 50, 0, 0, 0] ∧
    (after (.outputControlRelease 0 2) t).slot 1 = telegram 192 0x5D [0, 2, 1, 1, 83, 83, 0, 16, 39] ∧
    reply (.outputControlInhibit 0 3) live 0 = telegram 192 0x5D [4] ∧
    reply (.outputControlRelease 0 5) live 0 = telegram 192 0x5D [4] := by decide +kernel

theorem test_store :
    let t := after (.store 0 []) live
    t.storeState = .writing ∧ t.snapshot = some bankA ∧ t.storeTimer = some (sec 75 + ms 800) ∧
    (after (.store 0 []) t).slot 1 = telegram 192 0x5E [5] := by decide +kernel

theorem test_storeTimer :
    let s := { live with storeState := .writing, snapshot := some bankA, storeTimer := some (sec 75) }
    imageValid (after (.storeTimerExpiry 0 true) s).image = true ∧
    (after (.storeTimerExpiry 0 true) s).imageBad = false ∧
    (after (.storeTimerExpiry 0 false) s).storeState = .failed := by decide +kernel

theorem test_readCounters :
    let t := after (.readCounters 0 [1]) live
    t.slot 0 = telegram 192 0x5F ([0, 1, 0] ++ List.replicate 28 0) ∧ t.counter .trunkGood = 0 := by decide +kernel

theorem test_fieldRestart :
    let t := after (.fieldRestart 0 []) live
    (tget t.pods 16) = neverPod ∧ (tget t.zones 2).state = .blind ∧ (tget t.outputs 0).state = .failsafe ∧
    t.sweep = idleSweep ∧ lawful t = true := by decide +kernel

theorem test_badKind : reply (.badKind 0 0x70 [1, 2]) live 0 = telegram 192 0x70 [2] := by decide +kernel

theorem test_noSlot : (after (.identify 0 []) full).counter .trunkNoSlot = 1 := by decide +kernel

/-! ## Witnesses: states and operands that meet the hypotheses of the statements, clause by clause -/

/-- A command answers a next state. -/
def nexts (c : Instr) (s : State) : Bool :=
  match step { s with pending := [c] } with
  | .next _ => true
  | _ => false

/-- An outcome is next, with one state. -/
def answers (o : Host.Outcome State Fault Refusal) (t : State) : Bool :=
  match o with
  | .next u => u = t
  | _ => false

theorem next_of_nexts (c : Instr) (s : State) (h : nexts c s = true) : ∃ t, step { s with pending := [c] } = .next t := by
  unfold nexts at h
  split at h
  · exact ⟨_, by assumption⟩
  · cases h

/-- The same part with output 2 inhibited, and with a telegram on its way up or in. -/
def inhibited : State := after (.outputControlInhibit 0 2) live
def sendingUp : State := after (.trunkTransmissionStart 0) crowded
def takingIn : State := after (.trunkMarkCharacter 5 17 true) live
def sendingDown : State := after (.fieldTransactionStart 0) live
def writing : State := after (.store 0 []) live
def guarding : State := after (.replyWindowExpiry (sec 1)) awaiting

theorem test_wit_ready : ready live 0 ∧ ready State.reset 0 ∧ ready crowded 15 ∧ ready inhibited 1 := by
  unfold ready; decide +kernel

/-- EveryStepKeeps..., EveryStepConservesSlots: lawful states with a command waiting that changes them. -/
theorem test_wit_invariants :
    lawful { live with pending := [.swap 0 []] } = true ∧
    (∃ t, step { live with pending := [.swap 0 []] } = .next t) ∧
    lawful { receiving with pending := [.fieldDataCharacter 9 222 true] } = true ∧
    (∃ t, step { receiving with pending := [.fieldDataCharacter 9 222 true] } = .next t) :=
  ⟨by decide +kernel, next_of_nexts _ _ (by decide +kernel), by decide +kernel,
    next_of_nexts _ _ (by decide +kernel)⟩

theorem test_wit_laws_hold_after :
    [inhibited, writing, after (.fullReset 3) live].all lawful = true := by decide +kernel

theorem test_wit_step : live.pending = [] ∧ step live = .next live := ⟨rfl, rfl⟩

theorem test_wit_held :
    elapsed (.identify 3 []) = some 3 ∧ Instr.identify 3 [] ≠ .fullReset 3 ∧ (after (.fullReset 3) live).held = true ∧
    (after (.identify 3 []) (after (.fullReset 3) live)).now = sec 75 + 6 ∧ elapsed (.startUp 0 0) = none := by
  decide +kernel

/-- FilterStepStaysBetween: both directions, k = 0, the deadband, and a tie. -/
theorem test_wit_filter :
    filtered false 1 (some 0) 1 = 1 ∧ 2 * |2 ^ 1 * ((1 : Int) - 0) - (1 - 0)| = 2 ^ 1 ∧
    filtered false 1 (some 1) 0 = 0 ∧ filtered false 0 (some 7) (-7) = -7 ∧ 2 * |(1 : Int) - 0| < 2 ^ 2 ∧
    filtered false 2 (some 0) 1 = 0 := by decide +kernel

/-- SaturationInterpolatesTheKnots, VapourPressureBelowSaturation: the ends of the table, and saturation. -/
theorem test_wit_saturation :
    saturation (500 * 0 + 0 - 1000) = 286 ∧ saturation (500 * 11 + 499 - 1000) = 12344 ∧ saturation 5000 = 12350 ∧
    vapourPressure (-1000) 0 = 0 ∧ vapourPressure 5000 10000 = saturation 5000 := by decide +kernel

/-- DewPointInvertsTheKnots: RH at 99 and 100, the vapour pressure just under, at and over the table's ends. -/
theorem test_wit_dewPoint :
    (dewPoint 5000 99).dry = true ∧ vapourPressure 5000 100 = 123 ∧ (dewPoint 5000 100).below = true ∧
    vapourPressure (-1000) 9999 = 285 ∧ vapourPressure (-1000) 10000 = knot 0 ∧ vapourPressure 5000 9999 = 12348 ∧
    knot 11 ≤ 12348 ∧ (12348 : Int) < knot 12 ∧ (dewPoint 5000 9999).dew = 4999 ∧ vapourPressure 5000 10000 = knot 12 := by
  decide +kernel

/-- TakenReplyHasFourOutcomes: pod 17 of role AIR, FRESH with sequence 40; the four payloads; a NEVER and a reseeded
record; a stepped value; a SURFACE pod; and the coverage set, complete once both listed pods are in. -/
theorem test_wit_takeReply :
    (live.podEntry 16).role = .air ∧ (live.podEntry 29).role = .surface ∧
    (live.takeReply 16 [0, 1, 2, 3]).counter .roleMismatch = 1 ∧
    (live.takeReply 16 [1, 40, 102, 8, 124, 21]).counter .sensorFaults = 1 ∧
    (tget (live.takeReply 16 [0, 40, 102, 8, 124, 21]).pods 16).sampleCount = 1 ∧
    (tget (live.takeReply 16 [0, 41, 102, 8, 124, 21]).pods 16).sampleCount = 2 ∧
    (tget (State.takeReply (live.setPod 16 neverPod) 16 [0, 40, 102, 8, 124, 21]).pods 16).airTemp = some 2130 ∧
    (tget (State.takeReply (live.setPod 16 { tget live.pods 16 with reseed := true }) 16
      [0, 41, 0, 128, 124, 21]).pods 16).airTemp = some (-1000) := by decide +kernel

theorem test_wit_sampled :
    let r := tget live.pods 16
    let e := { live.podEntry 16 with weight := 2 }
    let n := sampled e (sec 75) r [0, 41, 182, 8, 124, 21]
    n.airTemp = some 2150 ∧ n.dewPoint = some (dewPoint 2150 5555).dew ∧ n.clamped = false ∧ n.surfTemp = none ∧
    (sampled e (sec 75) r [0, 41, 0, 128, 124, 21]).clamped = true ∧
    (sampled (live.podEntry 29) (sec 75) (tget live.pods 29) [0, 8, 71, 5]).surfTemp = some 1351 ∧
    (sampled { e with role := .dual } (sec 75) neverPod [0, 8, 182, 8, 0, 0, 71, 5]).surfTemp = some 1351 ∧
    (sampled { e with role := .dual } (sec 75) neverPod [0, 8, 182, 8, 0, 0, 71, 5]).dry = true := by decide +kernel

theorem test_wit_coverage :
    let s := live.takeReply 16 [0, 40, 102, 8, 124, 21]
    let t := s.takeReply 29 [0, 8, 70, 5]
    live.active.sweepList = [some 16, some 29, some 16] ∧ tget live.sweep.coverage 16 = false ∧
    tget s.sweep.coverage 16 = true ∧ s.sweep.covered = false ∧ t.sweep.covered = true ∧
    tget (live.takeReply 16 [1, 40, 102, 8, 124, 21]).sweep.coverage 16 = false := by decide +kernel

/-- StaleDeadlineHoldsTheValues: due and not due; the pod's own enabled zone, another zone, and no zone. -/
theorem test_wit_stale :
    isDue (sec 120) (tget live.pods 16).deadline = true ∧ isDue (sec 120 - 1) (tget live.pods 16).deadline = false ∧
    (live.podEntry 16).zone = some 2 ∧ (tget live.active.zones 2).enabled = true ∧ (live.podEntry 0).zone = none ∧
    (tget (after (.staleDeadlineExpiry (sec 45) 16) live).zones 2).values = none ∧
    (tget (after (.staleDeadlineExpiry (sec 45 - 1) 16) live).zones 2).values ≠ none := by decide +kernel

/-- EvaluationTakesWorstDewAndColdestSurface: a zone that sees both kinds, and one that sees none. -/
theorem test_wit_evaluation :
    live.freshAir 2 = [(16, 1199)] ∧ live.freshSurface 2 = [(29, 1350)] ∧ live.freshAir 0 = [] ∧
    (live.evaluated 2).values.map ZoneValues.margin = some 151 := by decide +kernel

/-- StateStepFollowsTheClasses: BLIND, worse, better and equal, with delays and without, and no clause twice. -/
theorem test_wit_stateStep :
    let e := { tget bankA.zones 2 with escDelay := 0, relDelay := 0 }
    let z (c : ZoneState) := { tget live.zones 2 with state := c }
    0 ≤ e.hysteresis ∧ (stateStep e 0 99 (z .blind)).state = .risk .alarm ∧
    (stateStep e 0 100 (z (.risk .clear))).state = .risk .warn ∧
    (stateStep e 0 149 (z (.risk .alarm))).state = .risk .alarm ∧
    (stateStep e 0 150 (z (.risk .alarm))).state = .risk .warn ∧
    (stateStep (tget bankA.zones 2) 0 99 (z (.risk .warn))).timer = .escalation (sec 60) ∧
    (stateStep (tget bankA.zones 2) 0 150 (z (.risk .alarm))).timer = .release (sec 300) := by decide +kernel

/-- ZoneTimerTakesTheTarget: a target that differs from the state, due and not due, and none. -/
theorem test_wit_zoneTimer :
    escalating.held = false ∧ (tget escalating.zones 2).target = some .alarm ∧
    (tget escalating.zones 2).state ≠ .risk .alarm ∧ isDue (sec 80) (tget escalating.zones 2).timer.expiry = true ∧
    isDue (sec 80 - 1) (tget escalating.zones 2).timer.expiry = false ∧ (tget live.zones 2).target = none := by
  decide +kernel

/-- DemandFollowsTheLowestMargin: the lowest seen margin at, and one inside, onset and full. -/
theorem test_wit_demand :
    let e := tget bankA.outputs 1
    let zones (m : Int) := tset live.zones 2 { tget live.zones 2 with
      values := some { dew := 0, surface := m, margin := m, worstDew := 16, coldestSurf := 29 } }
    e.full < e.onset ∧
    [400, 399, 101, 100].map (fun m => (seenMargins e (zones m), demandOf e (zones m) 7)) =
      [([400], 0), ([399], 0), ([101], 99), ([100], 100)] := by decide +kernel

/-- RedriveFormsTheDemandAndKeepsTheCycle: an output re-driven with its zones seen and with none seen. -/
theorem test_wit_redrive :
    let e := tget bankA.outputs 1
    let q := tget live.outputs 1
    let blind := tset live.zones 2 { tget live.zones 2 with state := .blind, values := none }
    (redriveRecord e live.zones q).demand = 83 ∧ (redriveRecord e blind q).state = .failsafe ∧
    (redriveRecord e blind q).demand = 83 ∧ (redriveRecord e blind q).pin = true ∧
    (redriveRecord e blind q).onTimer = some (sec 78) ∧
    redriveRecord e live.zones { redriveRecord e blind q with demand := 7 } = q := by decide +kernel

/-- R81, log entry 27: RELEASE before and after the re-drive of a margin that falls from 250 to 100. -/
theorem test_release_and_redrive :
    let e := tget bankA.outputs 1
    let zones (m : Int) := tset live.zones 2 { tget live.zones 2 with
      values := some { dew := 0, surface := m, margin := m, worstDew := 16, coldestSurf := 29 } }
    let r := inhibitRecord (tget live.outputs 1)
    let first := redriveRecord e (zones 100) (releaseRecord e (zones 250) 0 r)
    let last := releaseRecord e (zones 100) 0 (redriveRecord e (zones 100) r)
    first.state = last.state ∧ first.demand = 100 ∧ last.demand = 100 ∧ first.latched = 50 ∧ last.latched = 100 := by
  decide +kernel

/-- OnTimeTimerEndsTheOnPhase, PeriodTimerStartsTheNextPeriod: due, not due, and in FAILSAFE. -/
theorem test_wit_outputTimers :
    isDue (sec 78) (tget live.outputs 1).onTimer = true ∧ isDue (sec 78 - 1) (tget live.outputs 1).onTimer = false ∧
    (tget live.outputs 1).periodTimer.isSome = true ∧ (tget live.outputs 1).state = .running ∧
    isDue (sec 80) (tget live.outputs 1).periodTimer = true ∧
    (tget (after (.staleDeadlineExpiry (sec 45) 16) live).outputs 1).state = .failsafe := by decide +kernel

/-- InhibitTurnsTheOutputOff, ReleaseRecomputesTheOutput: output numbers 0, 1, 4 and 5, modes OFF and not, and inhibited
outputs only of modes that are not OFF. -/
theorem test_wit_outputControl :
    [0, 1, 4, 5].map (fun n => (outputOf n).isSome) = [false, true, true, false] ∧
    (tget live.active.outputs 0).mode ≠ .off ∧ (tget live.active.outputs 3).mode = .off ∧
    (tget inhibited.outputs 1).state = .inhibited ∧
    ∀ o, (tget inhibited.outputs o).state = .inhibited → (tget inhibited.active.outputs o).mode ≠ .off := by
  decide +kernel

/-- TrunkMark..., TrunkData..., GapAndWindow..., Upward...: the port in each of its states, and its moments. -/
theorem test_wit_trunk :
    live.held = false ∧ live.trunkPort = .listening ∧ takingIn.trunkPort = .receiving 0 (sec 75 + 5 + 3 * 42240) ∧
    sendingUp.trunkPort = .transmitting 0 (sec 75) ∧ crowded.upQ.length = 15 ∧ full.grant = none ∧
    (after (.trunkTransmissionStart 0) { crowded with trunkQuiet := sec 75 - 2 * 42240 + 1 }).trunkPort = .listening ∧
    (after (.trunkTransmissionStart 1) { crowded with trunkQuiet := sec 75 - 2 * 42240 + 1 }).trunkPort.txSlot =
      some 0 := by decide +kernel

/-- A good telegram to the own address ends at the management agent; 33 characters, a framing fault and a bad check end
it otherwise. -/
theorem test_wit_trunkData :
    let s := live.fillSlot 0 (telegram 64 0x50 []).dropLast
    let last := (telegram 64 0x50 []).getLast!
    let r := { s with trunkPort := .receiving 0 (sec 80) }
    (after (.trunkDataCharacter 0 last true) r).upQ = [0] ∧
    (after (.trunkDataCharacter 0 (last + 1) true) r).counter .trunkCheck = 1 ∧
    (after (.trunkDataCharacter 0 last false) r).counter .trunkFraming = 1 ∧
    (after (.trunkDataCharacter 0 33 true) { live.fillSlot 0 [64, 0x50] with
      trunkPort := .receiving 0 (sec 80) }).counter .trunkFraming = 1 ∧
    (after (.trunkDataCharacter 0 32 true) { live.fillSlot 0 [64, 0x50] with
      trunkPort := .receiving 0 (sec 80) }).slot 0 = [64, 0x50, 32] := by decide +kernel

/-- RequestNeedsTheLineAndASlot, RefusedRequestChangesNothing, RequestIsItsCharacters. -/
theorem test_wit_requests :
    requestOf (.badKind 4 0x4F overlong.tail) = some (4, 0x4F, overlong.tail) ∧ overlong.tail.length = 32 ∧
    (Instr.badKind 4 0x4F overlong.tail).wellFormed = true ∧ requestOf (.badKind 4 0x61 []) = some (4, 0x61, []) ∧
    requestOf (.readZone 4 []) = some (4, 0x52, []) ∧ lengthAllowed 0x50 1 = false ∧ lengthAllowed 0x60 1 = false ∧
    lengthAllowed 0x52 0 = false ∧ lengthAllowed 0x58 1 = false ∧ lengthAllowed 0x58 2 = true := by decide +kernel

theorem test_wit_request_characters :
    answers (runAll takingIn (asCharacters takingIn 4 0x61 [9])) (after (.badKind 4 0x61 [9]) takingIn) = true ∧
    answers (runAll sendingUp (asCharacters sendingUp 4 0x50 [])) (after (.identify 4 []) sendingUp) = true := by
  decide +kernel

/-- The numbers a report is asked for: just outside, and at, each end. -/
theorem test_wit_numbers :
    [0, 1, 16, 17].map (fun n => (zoneOf n).isSome) = [false, true, true, false] ∧
    [0, 1, 63, 64].map (fun n => (podOf n).isSome) = [false, true, true, false] ∧
    [[1, 4, 0], [2, 4, 0], [0, 3, 63], [0, 3, 64], [0, 5, 0], [0, 2, 4], [0, 2, 5]].map
        (fun p => (reply (.readEntry 0 p) live 0).getD 3 9) = [0, 4, 0, 4, 4, 0, 4] := by decide +kernel

/-- EntryWritesChangeTheShadowBank, ConfigurationBodiesClampEachField: each enumerated field at its last code and past. -/
theorem test_wit_bodies :
    [([3, 16], 17), ([4, 0], 17), ([0, 17], 17)].map
        (fun p => (readPodBody (p.1 ++ List.replicate 15 0 ++ [3]) 0).isSome) = [true, false, false] ∧
    (readPodBody (List.replicate 17 0 ++ [4]) 0).isSome = false ∧
    [1, 2].map (fun n => (readZoneBody (n :: List.replicate 12 0) 0).isSome) = [true, false] ∧
    [(2, 5, 2), (3, 5, 2), (2, 2, 2), (2, 6, 2), (2, 3, 3)].map
        (fun n => (readOutputBody [n.1, 0, 0, n.2.1, 0, 0, 0, 0, 1, n.2.2] 0).isSome) =
      [true, false, false, false, false] ∧
    [(3, 2), (4, 2), (3, 3)].map (fun n => (readFieldBody [n.1, 20, 0, n.2, 1, 0, 0, 50, 0]).map Prod.snd) =
      [some false, none, none] ∧
    ((readFieldBody [3, 19, 0, 2, 0, 89, 2, 49, 0]).map Prod.snd) = some true := by decide +kernel

/-- ConfigurationBodiesReadBack: entries at the ends of their ranges. -/
theorem test_wit_readBack :
    let p : PodEntry := { factoryPodEntry with airGain := -512, airOffset := 500, rhGain := 511, weight := 4,
                                               staleLimit := 3600, zone := some 15 }
    let z : ZoneEntry := { enabled := true, watch := 3000, warn := 0, alarm := 3000, hysteresis := 500, escDelay := 600,
                           relDelay := 3600 }
    let o : OutputEntry := { factoryOutputEntry with onset := 3000, full := -1000, period := 60 }
    podEntryRanges p = true ∧ readPodBody (podBody p) 0 = some (p, false) ∧ zoneEntryRanges z = true ∧
    readZoneBody (zoneBody z) 0 = some (z, false) ∧ outputEntryRanges o = true ∧
    readOutputBody (outputBody o) 0 = some (o, false) := by decide +kernel

/-- SweepListWriteFillsPlaces: lengths 64 and 65, the first place at and past the length, addresses 0, 63 and 64. -/
theorem test_wit_sweepList :
    [[64, 64], [0, 65], [3, 2], [2, 2], [63, 64, 1, 1], [0, 1, 0], [0, 1, 63], [0, 1, 64]].map
        (fun p => (reply (.writeSweepList 0 p) live 0).getD 3 9) = [0, 4, 4, 0, 4, 4, 0, 4] := by decide +kernel

/-- FailedSwapChangesNothing, SwapFlipsAndEveryBlockActs: banks that pass and that fail. -/
theorem test_wit_swap :
    validate live.shadow = none ∧ live.alertLawful ∧
    validate { bankA with zones := tset bankA.zones 0 { factoryZoneEntry with enabled := true } } = some (.noAir, 1) ∧
    validate { bankA with zones := tset bankA.zones 2 { tget bankA.zones 2 with alarm := 300 } } =
      some (.thresholdOrder, 3) ∧
    validate { bankA with outputs := tset bankA.outputs 3 { factoryOutputEntry with mode := .level } } =
      some (.outputEmpty, 4) ∧
    validate { bankA with outputs := tset bankA.outputs 1 { tget bankA.outputs 1 with full := 400 } } =
      some (.outputOrder, 2) ∧
    (swapChecks bankA).find? (fun c => c.2.2) = none ∧
    (swapChecks { bankA with zones := tset bankA.zones 0 { factoryZoneEntry with enabled := true },
                             sweepList := [none] }).find? (fun c => c.2.2) = some (1, 1, true) ∧
    (swapChecks { bankA with sweepList := [some 16, none, some 0] }).find? (fun c => c.2.2) = some (9, 1, true) := by
  decide +kernel

/-- SweepControlMovesTheSweep, SweepTimersSetDue: the sweep in each of its states. -/
theorem test_wit_sweep :
    State.reset.active.program.startMode = .off ∧ live.active.program.startMode = .rounds ∧
    live.active.sweepList ≠ [] ∧ live.sweep.state = .running ∧ (after (.sweepControlStop 0) live).sweep.state = .held ∧
    isDue (sec 77) (some (sec 77)) = true ∧ isDue (sec 77 - 1) (some (sec 77)) = false := by decide +kernel

/-- StoreBeginsWriting, StoreEndsDoneOrFailed: WRITING and not, due and not. -/
theorem test_wit_store :
    live.storeState ≠ .writing ∧ writing.storeState = .writing ∧ writing.storeLawful ∧ live.storeLawful ∧
    writing.grant = some 1 ∧ writing.held = false ∧ writing.trunkPort = .listening ∧
    isDue (sec 75 + ms 800) writing.storeTimer = true ∧ isDue (sec 75 + ms 799) writing.storeTimer = false ∧
    imageValid writing.image = false := by decide +kernel

/-- ReadCountersReportsThenClears: its operand at 0, 1 and 2. -/
theorem test_wit_counters :
    [0, 1, 2].map (fun c => (reply (.readCounters 0 [c]) live 0).getD 3 9) = [0, 0, 4] := by decide +kernel

/-- FieldRestartClearsStanding: its premises, the field port in each state, an enabled and an unused zone. -/
theorem test_wit_fieldRestart :
    live.zonesLawful ∧ live.alertLawful ∧ live.outputsLawful ∧
    [live, sendingDown, awaiting, receiving, guarding].map
        (fun s => (FieldPort.code s.fieldPort, FieldPort.code (after (.fieldRestart 0 []) s).fieldPort)) =
      [(0, 0), (1, 1), (2, 4), (3, 4), (4, 4)] ∧
    [live, sendingDown, awaiting, receiving, guarding].all (fun s => s.held = false ∧ s.trunkPort = .listening) =
      true := by decide +kernel

/-- FieldTransactionStart..., FieldSendingEnd...: the quiet interval one tick short and just run, too few FREE slots, and
a send left behind by a field restart. -/
theorem test_wit_fieldStart :
    let s := { live with fieldQuiet := sec 75 - 2 * 42240 + 1 }
    FieldPort.code (after (.fieldTransactionStart 0) s).fieldPort = 0 ∧
    FieldPort.code (after (.fieldTransactionStart 1) s).fieldPort = 1 ∧
    FieldPort.code (after (.fieldTransactionStart 0) { live with upQ := (List.finRange 14).map (Fin.castLE (by omega)) }).fieldPort = 0 ∧
    FieldPort.code (after (.fieldTransactionStart 0) { live with upQ := (List.finRange 13).map (Fin.castLE (by omega)) }).fieldPort = 1 ∧
    FieldPort.code (after (.fieldSendingEnd (5 * 42240 - 1)) sendingDown).fieldPort = 1 ∧
    FieldPort.code (after (.fieldSendingEnd (5 * 42240)) (after (.fieldRestart 0 []) sendingDown)).fieldPort = 4 := by
  decide +kernel

/-- FieldMark..., FieldData...: a framing fault in RECEIVING is a miss; in GUARD a character runs the guard anew. -/
theorem test_wit_fieldCharacters :
    (after (.fieldDataCharacter 9 222 false) receiving).counter .fieldMisses = 1 ∧
    (after (.fieldDataCharacter 9 221 true) receiving).counter .fieldBad = 1 ∧
    (after (.fieldMarkCharacter 9 145 true) guarding).counter .fieldUnsolicited = 1 ∧
    (after (.fieldMarkCharacter 9 145 false) live).counter .fieldUnsolicited = 0 ∧
    (after (.fieldDataCharacter 9 0 true) guarding).fieldPort ≠ guarding.fieldPort := by decide +kernel

/-- RefusedRequestChangesNothing by characters: unknown command codes, a wrong length, a bad kind. -/
theorem test_wit_refusedCharacters :
    [(0x5C, [1]), (0x5C, [3]), (0x5D, [1, 1]), (0x5D, [1, 2]), (0x5C, []), (0x61, [])].map (fun r =>
        ((match runAll live (asCharacters live 4 r.1 r.2) with
          | .next t => t
          | _ => State.reset).slot 0).getD 3 9) = [0, 4, 0, 4, 3, 2] := by decide +kernel

theorem test_wit_wrongLength :
    wrongLength 0x5C 0 ∧ ¬ wrongLength 0x5C 1 ∧ wrongLength 0x58 31 ∧ ¬ wrongLength 0x58 30 := by simp [wrongLength]

/-- FilterStepStaysBetween: the first sample of a NEVER record. -/
theorem test_wit_firstSample : filtered true 2 none 7 = 7 ∧ filtered false 2 none 7 = 7 := by decide +kernel

/-- EveryStepKeepsTelegramsWhole: the pair at its sums 0 and 254, and a check character of 255, which is bad. -/
theorem test_wit_checkPair :
    checkPair [255] = (0, 0) ∧ checkPair [254] = (254, 254) ∧ checkPair [17, 33, 0] = (50, 117) ∧
    isGood [0, 0, 0, 0, 0] = true ∧ isGood [255, 0, 0, 0, 0] = true ∧ isGood [0, 0, 0, 255, 0] = false ∧
    isGood [0, 0, 0, 0, 255] = false := by decide +kernel

/-- UpwardTransmission..., FieldTransactionStart...: the transmit pins of a port that sends and of one that does not. -/
theorem test_wit_transmitPins :
    lineBits [17, 33] = [false, true, false, false, false, true, false, false, false, true, true,
      false, true, false, false, false, false, true, false, false, false, true] ∧
    sendingUp.trkDe = true ∧ sendingUp.trkTxd = lineBits (sendingUp.slot 0) ∧ live.trkDe = false ∧ live.trkTxd = [] ∧
    sendingDown.fldDe = true ∧ sendingDown.fldTxd.length = 55 ∧ awaiting.fldDe = false ∧ awaiting.fldTxd = [] := by
  decide +kernel

/-- FieldTransactionStartArbitrates: a history that puts no start off waits up to the first moment and not beyond it. -/
theorem test_wit_firstMoment :
    let s := { live with fieldQuiet := sec 75 }
    s.startsTimely (2 * 42240) ∧ ¬ s.startsTimely (2 * 42240 + 1) := by decide +kernel

end Sys2Proof.Tests
end

section
/-! PROOFS. Chapter 1: rounded quotients, correction, the filter, saturation, vapour pressure and the dew point. -/

namespace Sys2Proof.Machine

/-! ### The rounded quotient (section 0.4) -/

/-- Where the rounded quotient lies for a numerator that is not negative: the floor of p / q + 1 / 2. -/
theorem roundQuot_bounds_of_nonneg {p : Int} {q : Nat} (hq : 0 < q) (hp : 0 ≤ p) :
    2 * (q * roundQuot p q) ≤ 2 * p + q ∧ 2 * p < 2 * (q * roundQuot p q) + q ∧ 0 ≤ roundQuot p q := by
  have hpos : (0 : Int) < 2 * q := by omega
  have hle := Int.mul_ediv_self_le (x := 2 * p + q) (ne_of_gt hpos)
  have hlt := Int.lt_mul_ediv_self_add (x := 2 * p + q) hpos
  have hnonneg : 0 ≤ (2 * p + q) / (2 * q) := Int.ediv_nonneg (by omega) hpos.le
  simp only [roundQuot, if_pos hp]
  rw [mul_assoc] at hle hlt
  exact ⟨hle, by linarith, hnonneg⟩

/-- Halves go away from zero, so the rounded quotient is odd in its numerator. -/
theorem roundQuot_neg (p : Int) (q : Nat) (hq : 0 < q) : roundQuot (-p) q = -roundQuot p q := by
  have hzero : (q : Int) / (2 * q) = 0 := Int.ediv_eq_zero_of_lt (by omega) (by omega)
  rcases lt_trichotomy p 0 with h | h | h
  · simp [roundQuot, show ¬ 0 ≤ p by omega, show p ≤ 0 by omega]
  · simp [roundQuot, h, hzero]
  · simp [roundQuot, show 0 ≤ p by omega, show ¬ p ≤ 0 by omega]

/-- What rounding to the nearest integer, halves away from zero, says of a result `r` for `p / q`. -/
def IsRounded (p : Int) (q : Nat) (r : Int) : Prop :=
  2 * |q * r - p| ≤ q ∧ (2 * |q * r - p| = q → |p| < |q * r|)

theorem isRounded_neg {p : Int} {q : Nat} {r : Int} (h : IsRounded p q r) : IsRounded (-p) q (-r) := by
  have hdiff : |q * -r - -p| = |q * r - p| := by rw [← abs_neg]; ring_nf
  rwa [IsRounded, hdiff, mul_neg, abs_neg, abs_neg]

theorem isRounded_roundQuot_of_nonneg {p : Int} {q : Nat} (hq : 0 < q) (hp : 0 ≤ p) : IsRounded p q (roundQuot p q) := by
  obtain ⟨hle, hlt, hr⟩ := roundQuot_bounds_of_nonneg hq hp
  have hmul : 0 ≤ q * roundQuot p q := by positivity
  simp only [IsRounded, abs_of_nonneg hp, abs_of_nonneg hmul]
  rcases abs_cases (q * roundQuot p q - p) with ⟨habs, _⟩ | ⟨habs, _⟩ <;> rw [habs] <;> omega

/-- Section 0.4: the rounded quotient is the nearest integer, halves away from zero. -/
theorem isRounded_roundQuot (p : Int) {q : Nat} (hq : 0 < q) : IsRounded p q (roundQuot p q) := by
  rcases le_total 0 p with hp | hp
  · exact isRounded_roundQuot_of_nonneg hq hp
  · have h := isRounded_neg (isRounded_roundQuot_of_nonneg hq (neg_nonneg.2 hp))
    rwa [roundQuot_neg p q hq, neg_neg, neg_neg] at h

/-- A rounded quotient lies between 0 and its numerator. -/
theorem roundQuot_le_self {p : Int} {q : Nat} (hq : 0 < q) (hp : 0 ≤ p) : 0 ≤ roundQuot p q ∧ roundQuot p q ≤ p := by
  obtain ⟨hle, _, hr⟩ := roundQuot_bounds_of_nonneg hq hp
  refine ⟨hr, ?_⟩
  by_contra hgt
  have hq1 : (1 : Int) ≤ q := by omega
  nlinarith

theorem roundQuot_ge_self {p : Int} {q : Nat} (hq : 0 < q) (hp : p ≤ 0) : p ≤ roundQuot p q ∧ roundQuot p q ≤ 0 := by
  have h := roundQuot_le_self hq (neg_nonneg.2 hp)
  rw [roundQuot_neg p q hq] at h
  omega

@[simp] theorem roundQuot_one (p : Int) : roundQuot p 1 = p := by
  simp only [roundQuot]
  split <;> omega

/-- Less than half a unit rounds to 0. -/
theorem roundQuot_eq_zero {p : Int} {q : Nat} (hp : 2 * |p| < q) : roundQuot p q = 0 := by
  have hsmall : ∀ x : Int, 0 ≤ x → 2 * x < q → roundQuot x q = 0 := fun x hx hlt => by
    simp only [roundQuot, if_pos hx]
    exact Int.ediv_eq_zero_of_lt (by omega) (by omega)
  rcases le_total 0 p with h | h
  · exact hsmall p h (by rwa [abs_of_nonneg h] at hp)
  · have hneg := hsmall (-p) (by omega) (by rwa [abs_of_nonpos h] at hp)
    rw [roundQuot_neg p q (by have := abs_nonneg p; omega)] at hneg
    omega

/-! ### Correction (R3) -/

/-- Settles O7, from the rounded quotient being the nearest integer. -/
theorem correctionRoundsHalvesAwayFromZero : Obligations.CorrectionRoundsHalvesAwayFromZero := by
  unfold Obligations.CorrectionRoundsHalvesAwayFromZero
  refine ⟨fun x g o => ?_, by decide, by decide, fun x o => by simp [corrected, roundQuot_eq_zero], by decide, by decide⟩
  obtain ⟨hnear, htie⟩ := isRounded_roundQuot (x * g) (show 0 < 4096 by decide)
  exact ⟨roundQuot (x * g) 4096, rfl, by exact_mod_cast hnear, by exact_mod_cast htie⟩

/-! ### The filter (R5 to R7) -/

@[simp] theorem filtered_seeds (k : Nat) (old : Option Int) (c : Int) : filtered true k old c = c := by
  cases old <;> rfl

@[simp] theorem filtered_none (seeds : Bool) (k : Nat) (c : Int) : filtered seeds k none c = c := rfl

theorem filtered_step (k : Nat) (v c : Int) : filtered false k (some v) c = v + roundQuot (c - v) (2 ^ k) := rfl

/-- R6: a step goes toward the value and never past it. -/
theorem filtered_step_between (k : Nat) (v c : Int) :
    (v ≤ c → v ≤ filtered false k (some v) c ∧ filtered false k (some v) c ≤ c) ∧
    (c ≤ v → c ≤ filtered false k (some v) c ∧ filtered false k (some v) c ≤ v) := by
  have hq : 0 < 2 ^ k := Nat.two_pow_pos k
  rw [filtered_step]
  constructor
  · intro h
    have := roundQuot_le_self hq (sub_nonneg.2 h)
    omega
  · intro h
    have := roundQuot_ge_self hq (sub_nonpos.2 h)
    omega

/-- R7: a filtered value stays in the range that the value held and the new one lie in. -/
theorem filtered_mem {lo hi c : Int} (seeds : Bool) (k : Nat) {old : Option Int} (hold : within lo hi old)
    (hc : lo ≤ c ∧ c ≤ hi) : lo ≤ filtered seeds k old c ∧ filtered seeds k old c ≤ hi := by
  cases old with
  | none => exact hc
  | some v =>
    obtain ⟨hlo, hhi⟩ := hold v rfl
    cases seeds with
    | true => simpa using hc
    | false =>
      obtain ⟨hup, hdown⟩ := filtered_step_between k v c
      rcases le_total v c with h | h
      · have := hup h
        omega
      · have := hdown h
        omega

/-- Settles O8. -/
theorem filterStepStaysBetween : Obligations.FilterStepStaysBetween := by
  unfold Obligations.FilterStepStaysBetween
  intro k v c
  obtain ⟨hup, hdown⟩ := filtered_step_between k v c
  obtain ⟨hnear, htie⟩ := isRounded_roundQuot (c - v) (Nat.two_pow_pos k)
  have hmove : filtered false k (some v) c - v = roundQuot (c - v) (2 ^ k) := by
    rw [filtered_step]
    ring
  refine ⟨by simp, by simp, rfl, _, rfl, hup, hdown, ?_, ?_, ?_, ?_⟩
  · rintro rfl
    simp [filtered_step]
  · rw [hmove]
    exact_mod_cast hnear
  · intro hsmall
    rw [filtered_step, roundQuot_eq_zero (by exact_mod_cast hsmall), add_zero]
  · rw [hmove]
    exact_mod_cast htie

/-! ### The knots (TABLE 1-3) -/

theorem knot_of_ge {i : Nat} (h : 12 ≤ i) : knot i = 12350 := by
  obtain rfl | h := h.eq_or_lt
  · rfl
  · exact List.getD_eq_default _ _ h

theorem knot_lt_knot_succ {i : Nat} (h : i ≤ 11) : knot i < knot (i + 1) := by
  have hall : ∀ i ∈ List.range 12, knot i < knot (i + 1) := by decide
  exact hall i (List.mem_range.2 (by omega))

theorem knot_mono : Monotone knot := by
  refine monotone_nat_of_le_succ fun i => ?_
  rcases Nat.lt_or_ge i 12 with h | h
  · exact (knot_lt_knot_succ (by omega)).le
  · rw [knot_of_ge h, knot_of_ge (by omega)]

theorem knot_zero : knot 0 = 286 := rfl

/-- A value from one knot up to a later one lies in the interval of some knot between them. -/
theorem exists_knot_interval {e : Int} (h0 : knot 0 ≤ e) :
    ∀ {n : Nat}, e < knot n → ∃ j, j < n ∧ knot j ≤ e ∧ e < knot (j + 1)
  | 0, hn => absurd h0 (not_le.2 hn)
  | n + 1, hn => by
    rcases lt_or_ge e (knot n) with h | h
    · obtain ⟨j, hj, hle, hlt⟩ := exists_knot_interval h0 h
      exact ⟨j, by omega, hle, hlt⟩
    · exact ⟨n, by omega, h, hn⟩

/-! ### Linear interpolation

A saturation pressure goes from knot to knot in 500 steps of temperature, and a dew point from 500 to 500 in as many steps
as the pressure rises: both are a rise scaled to a run. -/

/-- Part of a run, strictly short of it, gives part of the rise, strictly short of it. -/
theorem interpolation_mem {rise run x : Int} (hrise : 0 < rise) (hx : 0 ≤ x) (hlt : x < run) :
    0 ≤ rise * x / run ∧ rise * x / run < rise := by
  have hrun : 0 < run := by omega
  refine ⟨Int.ediv_nonneg (by positivity) hrun.le, Int.ediv_lt_of_lt_mul hrun ?_⟩
  exact mul_lt_mul_of_pos_left hlt hrise

theorem interpolation_mono {rise run x y : Int} (hrise : 0 ≤ rise) (hrun : 0 < run) (h : x ≤ y) :
    rise * x / run ≤ rise * y / run :=
  Int.ediv_le_ediv hrun (mul_le_mul_of_nonneg_left h hrise)

/-- Interpolated forward and then back, a part of a run comes out no larger. -/
theorem interpolation_back_le {rise run x : Int} (hrise : 0 < rise) (hrun : 0 < run) :
    run * (rise * x / run) / rise ≤ x := by
  have hfloor : run * (rise * x / run) ≤ rise * x := Int.mul_ediv_self_le (ne_of_gt hrun)
  calc run * (rise * x / run) / rise ≤ rise * x / rise := Int.ediv_le_ediv hrise hfloor
    _ = x := Int.mul_ediv_cancel_left x (ne_of_gt hrise)

/-! ### Saturation pressure (R8) -/

/-- R8: interpolation from knot i. -/
theorem saturation_of_knot {i : Nat} {f : Int} (hi : i ≤ 11) (h0 : 0 ≤ f) (hf : f < 500) :
    saturation (500 * i + f - 1000) = knot i + (knot (i + 1) - knot i) * f / 500 := by
  have hidx : ((500 * i + f - 1000 + 1000) / 500).toNat = i := by omega
  have hoff : 500 * i + f - 1000 + 1000 - 500 * i = f := by ring
  simp only [saturation, hidx, hoff, if_neg (show ¬ 12 ≤ i by omega)]

theorem saturation_top : saturation 5000 = 12350 := rfl

/-- A temperature of the range below its top lies in the interval of one knot. -/
theorem exists_knot_offset {t : Int} (h0 : -1000 ≤ t) (h1 : t < 5000) :
    ∃ (i : Nat) (f : Int), i ≤ 11 ∧ 0 ≤ f ∧ f < 500 ∧ t = 500 * i + f - 1000 :=
  ⟨((t + 1000) / 500).toNat, (t + 1000) % 500, by omega, by omega, by omega, by omega⟩

/-- R8: inside the interval of knot i the saturation pressure has not reached the next knot. -/
theorem saturation_mem_interval {i : Nat} {f : Int} (hi : i ≤ 11) (h0 : 0 ≤ f) (hf : f < 500) :
    knot i ≤ saturation (500 * i + f - 1000) ∧ saturation (500 * i + f - 1000) < knot (i + 1) := by
  have hmem := interpolation_mem (sub_pos.2 (knot_lt_knot_succ hi)) h0 hf
  rw [saturation_of_knot hi h0 hf]
  omega

/-- R8: the saturation pressure rises or stays level with the temperature. -/
theorem saturation_mono {t u : Int} (h0 : -1000 ≤ t) (htu : t ≤ u) (h1 : u ≤ 5000) : saturation t ≤ saturation u := by
  rcases htu.eq_or_lt with rfl | htu
  · exact le_rfl
  obtain ⟨i, f, hi, hf0, hf1, rfl⟩ := exists_knot_offset h0 (by omega)
  have ht := saturation_mem_interval hi hf0 hf1
  rcases h1.eq_or_lt with rfl | h1
  · exact ht.2.le.trans (knot_mono (show i + 1 ≤ 12 by omega))
  obtain ⟨j, g, hj, hg0, hg1, rfl⟩ := exists_knot_offset (h0.trans htu.le) h1
  have hu := saturation_mem_interval hj hg0 hg1
  rcases Nat.lt_trichotomy i j with hij | rfl | hij
  · exact ht.2.le.trans ((knot_mono hij).trans hu.1)
  · rw [saturation_of_knot hi hf0 hf1, saturation_of_knot hj hg0 hg1]
    have := interpolation_mono (sub_nonneg.2 (knot_lt_knot_succ hi).le) (show (0 : Int) < 500 by decide)
      (show f ≤ g by omega)
    omega
  · omega

theorem saturation_mem {t : Int} (h0 : -1000 ≤ t) (h1 : t ≤ 5000) : 286 ≤ saturation t ∧ saturation t ≤ 12350 :=
  ⟨saturation_mono (t := -1000) le_rfl h0 h1, saturation_mono h0 h1 le_rfl⟩

/-- Settles O9. -/
theorem saturationInterpolatesTheKnots : Obligations.SaturationInterpolatesTheKnots := by
  unfold Obligations.SaturationInterpolatesTheKnots
  refine ⟨rfl, fun i f hi h0 hf => saturation_of_knot hi h0 hf, saturation_top, fun t u h0 htu h1 => ?_⟩
  exact ⟨(saturation_mem h0 (htu.trans h1)).1, saturation_mono h0 htu h1, (saturation_mem (h0.trans htu) h1).2⟩

/-! ### Vapour pressure (R10) -/

/-- R10: the vapour pressure rises or stays level with the temperature and with the RH. -/
theorem vapourPressure_mono {t u rh rh' : Int} (h0 : -1000 ≤ t) (htu : t ≤ u) (h1 : u ≤ 5000) (hrh : 0 ≤ rh)
    (hle : rh ≤ rh') : vapourPressure t rh ≤ vapourPressure u rh' := by
  have hu := saturation_mem (h0.trans htu) h1
  exact Int.ediv_le_ediv (by decide) (mul_le_mul (saturation_mono h0 htu h1) hle hrh (by omega))

theorem vapourPressure_saturated (t : Int) : vapourPressure t 10000 = saturation t :=
  Int.mul_ediv_cancel _ (by decide)

/-- R10: short of saturation the vapour pressure lies below the saturation pressure. -/
theorem vapourPressure_lt_saturation {t rh : Int} (h0 : -1000 ≤ t) (h1 : t ≤ 5000) (h : rh < 10000) :
    vapourPressure t rh < saturation t := by
  have := saturation_mem h0 h1
  exact Int.ediv_lt_of_lt_mul (by decide) (mul_lt_mul_of_pos_left h (by omega))

theorem vapourPressure_le_saturation {t rh : Int} (h0 : -1000 ≤ t) (h1 : t ≤ 5000) (hrh : 0 ≤ rh) (h : rh ≤ 10000) :
    vapourPressure t rh ≤ saturation t :=
  vapourPressure_saturated t ▸ vapourPressure_mono h0 le_rfl h1 hrh h

/-- Settles O10. -/
theorem vapourPressureBelowSaturation : Obligations.VapourPressureBelowSaturation := by
  unfold Obligations.VapourPressureBelowSaturation
  intro t rh h0 h1 hrh0 hrh1
  refine ⟨rfl, vapourPressure_le_saturation h0 h1 hrh0 hrh1, fun heq => ?_, ?_⟩
  · by_contra hne
    exact absurd heq (vapourPressure_lt_saturation h0 h1 (by omega)).ne
  · exact mul_le_mul (saturation_mem h0 h1).2 hrh1 hrh0 (by decide)

/-! ### The dew point of a pressure (R11) -/

/-- A scan of 0..n-1 that keeps the last index with a property ends at the largest one. -/
theorem foldl_keeps_last (p : Nat → Prop) [DecidablePred p] {j : Nat} (hj : p j) :
    ∀ {n : Nat}, j < n → (∀ i, j < i → i < n → ¬ p i) → (List.range n).foldl (fun a i => if p i then i else a) 0 = j
  | n + 1, hn, hlast => by
    rw [List.range_succ, List.foldl_append, List.foldl_cons, List.foldl_nil]
    rcases Nat.lt_or_ge j n with h | h
    · rw [if_neg (hlast n h (Nat.lt_succ_self n))]
      exact foldl_keeps_last p hj h fun i hi hin => hlast i hi (by omega)
    · obtain rfl : j = n := by omega
      exact if_pos hj

/-- R11: the last knot not above e is the one whose interval holds e. -/
theorem lastKnot_of_interval {e : Int} {j : Nat} (hj : j ≤ 11) (hle : knot j ≤ e) (hlt : e < knot (j + 1)) :
    lastKnot e = j :=
  foldl_keeps_last (fun i => knot i ≤ e) hle (by omega) fun _ hi _ => not_le.2 (hlt.trans_le (knot_mono hi))

theorem dewOfPressure_below {e : Int} (h : e < 286) : dewOfPressure e = { dew := -1000, dry := false, below := true } :=
  if_pos h

theorem dewOfPressure_top {e : Int} (h : 12350 ≤ e) : dewOfPressure e = { dew := 5000, dry := false, below := false } := by
  rw [dewOfPressure, if_neg (show ¬ e < knot 0 by rw [knot_zero]; omega), if_pos (show knot 12 ≤ e from h)]

/-- R11: inverse interpolation from knot j. -/
theorem dewOfPressure_of_interval {e : Int} {j : Nat} (hj : j ≤ 11) (hle : knot j ≤ e) (hlt : e < knot (j + 1)) :
    dewOfPressure e = { dew := -1000 + 500 * j + (e - knot j) * 500 / (knot (j + 1) - knot j), dry := false,
                        below := false } := by
  have hbottom : knot 0 ≤ e := (knot_mono (Nat.zero_le j)).trans hle
  have htop : e < knot 12 := hlt.trans_le (knot_mono (by omega))
  rw [dewOfPressure, if_neg (not_lt.2 hbottom), if_neg (not_le.2 htop), lastKnot_of_interval hj hle hlt]

/-- R11: inside the interval of knot j the dew point has not reached the next knot's temperature. -/
theorem dewOfPressure_mem_interval {e : Int} {j : Nat} (hj : j ≤ 11) (hle : knot j ≤ e) (hlt : e < knot (j + 1)) :
    -1000 + 500 * (j : Int) ≤ (dewOfPressure e).dew ∧ (dewOfPressure e).dew < -500 + 500 * (j : Int) := by
  have hmem := interpolation_mem (rise := 500) (run := knot (j + 1) - knot j) (x := e - knot j) (by decide) (by omega)
    (by omega)
  rw [dewOfPressure_of_interval hj hle hlt, mul_comm (e - knot j)]
  dsimp only
  omega

theorem dewOfPressure_mem (e : Int) : -1000 ≤ (dewOfPressure e).dew ∧ (dewOfPressure e).dew ≤ 5000 := by
  rcases lt_or_ge e (knot 0) with h | h
  · simp [dewOfPressure_below h]
  rcases lt_or_ge e (knot 12) with h' | h'
  · obtain ⟨j, hj, hle, hlt⟩ := exists_knot_interval h h'
    have := dewOfPressure_mem_interval (by omega) hle hlt
    omega
  · simp [dewOfPressure_top h']

/-- R11, R13: the dew point rises or stays level with the pressure. -/
theorem dewOfPressure_mono {e e' : Int} (h : e ≤ e') : (dewOfPressure e).dew ≤ (dewOfPressure e').dew := by
  rcases lt_or_ge e (knot 0) with hb | hb
  · rw [dewOfPressure_below hb]
    exact (dewOfPressure_mem e').1
  rcases lt_or_ge e' (knot 12) with ht | ht
  · obtain ⟨i, hi, hile, hilt⟩ := exists_knot_interval hb (h.trans_lt ht)
    obtain ⟨j, hj, hjle, hjlt⟩ := exists_knot_interval (hb.trans h) ht
    have hdi := dewOfPressure_mem_interval (by omega) hile hilt
    have hdj := dewOfPressure_mem_interval (by omega) hjle hjlt
    rcases Nat.lt_trichotomy i j with hij | rfl | hij
    · omega
    · rw [dewOfPressure_of_interval (by omega) hile hilt, dewOfPressure_of_interval (by omega) hjle hjlt]
      have := interpolation_mono (rise := 500) (by decide) (sub_pos.2 (knot_lt_knot_succ (show i ≤ 11 by omega)))
        (sub_le_sub_right h (knot i))
      simpa only [mul_comm, add_le_add_iff_left] using this
    · exact absurd (hjlt.trans_le ((knot_mono hij).trans hile)) (not_lt.2 h)
  · rw [dewOfPressure_top ht]
    exact (dewOfPressure_mem e).2

/-- R12: the dew point of the saturation pressure at a temperature is not above that temperature. -/
theorem dewOfPressure_saturation_le {t : Int} (h0 : -1000 ≤ t) (h1 : t ≤ 5000) : (dewOfPressure (saturation t)).dew ≤ t := by
  rcases h1.eq_or_lt with rfl | h1
  · exact (dewOfPressure_mem _).2
  obtain ⟨i, f, hi, hf0, hf1, rfl⟩ := exists_knot_offset h0 h1
  obtain ⟨hle, hlt⟩ := saturation_mem_interval hi hf0 hf1
  have hback := interpolation_back_le (run := 500) (sub_pos.2 (knot_lt_knot_succ hi)) (by decide) (x := f)
  rw [dewOfPressure_of_interval hi hle hlt, saturation_of_knot hi hf0 hf1, add_sub_cancel_left, mul_comm _ 500]
  dsimp only
  omega

/-! ### The dew point of filtered air (R9, R12, R13) -/

theorem dewPoint_dry {rh : Int} (t : Int) (h : rh < 100) : dewPoint t rh = { dew := -1000, dry := true, below := false } :=
  if_pos h

theorem dewPoint_of_ge {rh : Int} (t : Int) (h : 100 ≤ rh) : dewPoint t rh = dewOfPressure (vapourPressure t rh) :=
  if_neg (not_lt.2 h)

/-- R12: a dew point lies in range. -/
theorem dewPoint_mem (t rh : Int) : -1000 ≤ (dewPoint t rh).dew ∧ (dewPoint t rh).dew ≤ 5000 := by
  rcases lt_or_ge rh 100 with h | h
  · simp [dewPoint_dry t h]
  · rw [dewPoint_of_ge t h]
    exact dewOfPressure_mem _

/-- R12: a dew point is not above its air temperature. -/
theorem dewPoint_le_air {t rh : Int} (h0 : -1000 ≤ t) (h1 : t ≤ 5000) (hrh0 : 0 ≤ rh) (hrh1 : rh ≤ 10000) :
    (dewPoint t rh).dew ≤ t := by
  rcases lt_or_ge rh 100 with h | h
  · rw [dewPoint_dry t h]
    exact h0
  · rw [dewPoint_of_ge t h]
    exact (dewOfPressure_mono (vapourPressure_le_saturation h0 h1 hrh0 hrh1)).trans (dewOfPressure_saturation_le h0 h1)

/-- R13: a dew point rises or stays level with the air temperature and with the RH. -/
theorem dewPoint_mono {t u rh rh' : Int} (h0 : -1000 ≤ t) (htu : t ≤ u) (h1 : u ≤ 5000) (hrh : 0 ≤ rh)
    (hle : rh ≤ rh') : (dewPoint t rh).dew ≤ (dewPoint u rh').dew := by
  rcases lt_or_ge rh 100 with h | h
  · rw [dewPoint_dry t h]
    exact (dewPoint_mem u rh').1
  · rw [dewPoint_of_ge t h, dewPoint_of_ge u (h.trans hle)]
    exact dewOfPressure_mono (vapourPressure_mono h0 htu h1 hrh hle)

/-- Settles O11. -/
theorem dewPointInvertsTheKnots : Obligations.DewPointInvertsTheKnots := by
  unfold Obligations.DewPointInvertsTheKnots
  refine fun t rh => ⟨dewPoint_dry t, fun h => ?_⟩
  rw [dewPoint_of_ge t h]
  refine ⟨dewOfPressure_below, dewOfPressure_top, fun j hj hle hlt => ⟨dewOfPressure_of_interval hj hle hlt, ?_⟩⟩
  have := dewOfPressure_mem_interval hj hle hlt
  omega

/-- Settles O12. -/
theorem dewPointOrderedAndNotAboveAir : Obligations.DewPointOrderedAndNotAboveAir := by
  unfold Obligations.DewPointOrderedAndNotAboveAir
  intro t u rh rh' h0 htu h1 hrh0 hle hrh1
  exact ⟨(dewPoint_mem t rh).1, dewPoint_le_air h0 (htu.trans h1) hrh0 (hle.trans hrh1), dewPoint_mono h0 htu h1 hrh0 hle⟩

end Sys2Proof.Machine
end

section
/-! PROOFS. Taking a reply, a re-drive and a zone write: the model's operations are the ones that the statements spell out. -/

namespace Sys2Proof.Machine

open Sys2Proof.Stated

/-! ### Re-drives (R69 to R78) -/

theorem anySeen_eq_mapped (e : OutputEntry) (zones : Vector ZoneRecord 16) :
    anySeen e zones = mapped e zones fun z => z ≠ .unused && z ≠ .blind := by
  have hseen : ∀ r : ZoneRecord, r.isSeen = (r.state ≠ .unused && r.state ≠ .blind) := fun r => by
    rw [ZoneRecord.isSeen]
    cases r.state <;> rfl
  simp only [anySeen, mappedZones_any, mapped, hseen]

theorem anyBlind_eq_mapped (e : OutputEntry) (zones : Vector ZoneRecord 16) :
    anyBlind e zones = mapped e zones fun z => z = .blind := by
  simp only [anyBlind, mappedZones_any, mapped]

/-- R71: the severity that a level asks for, in the codes of TABLE 5-8. -/
theorem level_severity_le_iff (l : OutputLevel) (c : RiskClass) :
    OutputLevel.severity l ≤ RiskClass.severity c ↔ OutputLevel.code l ≤ 2 + RiskClass.severity c := by
  cases l <;> simp [OutputLevel.severity, OutputLevel.code] <;> omega

theorem levelPin_eq_mapped (e : OutputEntry) (zones : Vector ZoneRecord 16) :
    levelPin e zones = mapped e zones fun z =>
      match z with
      | .risk c => OutputLevel.code e.level ≤ 2 + RiskClass.severity c
      | _ => false := by
  rw [levelPin, mappedZones_any, mapped]
  refine congrArg _ (funext fun z => congrArg _ ?_)
  cases (tget zones z).state with
  | unused | blind => rfl
  | risk c => simp only [level_severity_le_iff]

/-- R76: the pin at an entry to FAILSAFE, by the fail action. -/
theorem enterFailsafe_eq (e : OutputEntry) (q : OutputRecord) :
    enterFailsafe e q =
      { q with
          state := .failsafe, isPartial := false,
          pin := match e.failAction with
            | .off => false
            | .on => true
            | .hold => if e.mode = .proportional then q.onTimer.isSome || q.latched = 100 else q.pin } := by
  rfl

/-- R69: the model's re-drive is the one stated. -/
theorem redriveRecord_eq_redriven (e : OutputEntry) (zones : Vector ZoneRecord 16) (q : OutputRecord) :
    redriveRecord e zones q = redriven e zones q := by
  simp only [redriven, ← anySeen_eq_mapped, ← anyBlind_eq_mapped]
  by_cases hstill : q.state = .idle ∨ q.state = .inhibited
  · rw [redriveRecord_still hstill, if_pos (hstill.imp_right .inl)]
  obtain ⟨hidle, hinhibited⟩ := not_or.1 hstill
  cases hseen : anySeen e zones with
  | true =>
    cases hmode : e.mode with
    | off => simp [redriveRecord, hidle, hinhibited, hseen, hmode]
    | level =>
      simp only [redriveRecord, hidle, hinhibited, or_self, ↓reduceIte, hseen, hmode, reduceCtorEq, and_false,
        Bool.true_eq_false, false_and, OutputRecord.mk.injEq, and_self, and_true, true_and]
      exact levelPin_eq_mapped e zones
    | proportional => simp [redriveRecord, OutputRecord.cycleLevel, hidle, hinhibited, hseen, hmode]
  | false =>
    by_cases hfailsafe : q.state = .failsafe
    · simp [redriveRecord, hfailsafe, hseen]
    · simp only [redriveRecord, hidle, hinhibited, or_self, ↓reduceIte, hseen, Bool.false_eq_true, hfailsafe,
        false_and, and_false]
      exact enterFailsafe_eq e q

theorem tmap_id {α : Type} {n : Nat} (v : Vector α n) : tmap v (fun _ x => x) = v :=
  table_ext fun i => tget_tmap v _ i

/-! ### Zone writes and evaluations (R45, R56 to R60) -/

theorem anyAlarm_eq (zones : Vector ZoneRecord 16) :
    anyAlarm zones = (List.finRange 16).any fun z => (tget zones z).state = .risk .alarm := by
  have hlist : zones.toList = (List.finRange 16).map (tget zones) := by
    apply List.ext_getElem <;> simp [tget, Vector.get_eq_getElem]
  rw [anyAlarm, hlist, List.any_map]
  rfl

/-- R56: the record that a zone write leaves: one whose state has changed keeps the moment. -/
def stampedZone (s : State) (z : ZoneIx) (r : ZoneRecord) : ZoneRecord :=
  if r.state = (tget s.zones z).state then r else { r with lastChange := s.now }

theorem putZone_eq (s : State) (z : ZoneIx) (r : ZoneRecord) :
    s.putZone z r =
      { s with
          zones := tset s.zones z (stampedZone s z r),
          changeSet := if r.state = (tget s.zones z).state then s.changeSet else s.changeSet ||| zoneBit z,
          alert := if r.state = (tget s.zones z).state then s.alert
                   else anyAlarm (tset s.zones z (stampedZone s z r)) } := by
  by_cases h : r.state = (tget s.zones z).state
  · simp only [putZone_same s h, stampedZone, if_pos h]
    rfl
  · simp only [putZone_changed s h, stampedZone, if_neg h]

theorem handsOver_iff (old new : ZoneRecord) :
    handsOver old new = true ↔
      new.state ≠ old.state ∨ new.values.map ZoneValues.margin ≠ old.values.map ZoneValues.margin := by
  rw [handsOver, Bool.or_eq_true, decide_eq_true_iff, decide_eq_true_iff]
  rfl

/-- R56 to R60: the model's zone write with its hand-over is the one stated. -/
theorem putAndHandOver_eq_zoneWritten (s : State) (z : ZoneIx) (r : ZoneRecord) :
    s.putAndHandOver z r = zoneWritten s z r := by
  simp only [State.putAndHandOver, zoneWritten, ← handsOver_iff, ← anyAlarm_eq, ← redriveRecord_eq_redriven]
  cases handsOver (tget s.zones z) r with
  | false => simp [putZone_eq, stampedZone, zoneBit, tmap_id]
  | true =>
    simp only [putZone_eq, stampedZone, zoneBit, State.redrive, if_true, true_and]
    rfl

/-- R27, R29, R45: the model's evaluation of a pod's zone is the one stated. -/
theorem evaluatePodZone_eq (s : State) (i : PodIx) : s.evaluatePodZone i = podZoneEvaluated s i := by
  rw [State.evaluatePodZone, podZoneEvaluated]
  cases (s.podEntry i).zone with
  | none => rfl
  | some z => simp only [State.evaluate, putAndHandOver_eq_zoneWritten]

/-! ### The coverage set (R155) -/

theorem covers_iff (coverage : Vector Bool 63) (l : List (Option PodIx)) :
    covers coverage l = true ↔ ∀ j, some j ∈ l → tget coverage j = true := by
  simp only [covers, List.all_eq_true]
  constructor
  · exact fun h j hj => h (some j) hj
  · rintro h (_ | j) hj
    · rfl
    · exact h j hj

/-- R155: the model's entry to the coverage set is the one stated. -/
theorem enterCoverage_eq (s : State) (i : PodIx) : s.enterCoverage i = covering s i := by
  have hcovered : ∀ v, covers v s.active.sweepList = decide (∀ j, some j ∈ s.active.sweepList → tget v j = true) :=
    fun v => by rw [Bool.eq_iff_iff, covers_iff, decide_eq_true_iff]
  simp [State.enterCoverage, covering, hcovered, State.setSweep]

/-! ### The four outcomes of a taken reply (TABLE 2-4) -/

theorem clampInt_fst {lo hi : Int} (h : lo ≤ hi) (x : Int) : (clampInt lo hi x).1 = max lo (min hi x) := by
  simp only [clampInt]
  split
  · simp only; omega
  · split <;> simp only <;> omega

theorem clampInt_snd (lo hi x : Int) : (clampInt lo hi x).2 = (decide (x < lo) || decide (hi < x)) := by
  simp only [clampInt]
  split
  · simp [*]
  · split <;> simp [*]

/-- R24: acceptance, field by field. -/
theorem acceptRecord_eq (e : PodEntry) (now : Nat) (r : PodRecord) :
    acceptRecord e now r =
      { r with
          missCount := 0, sensorFault := false, lastReply := some now,
          late := match r.lastReply with
            | some t => decide (e.staleLimit * 1000 * ticksPerMs < now - t)
            | none => r.late,
          interval := match r.lastReply with
            | some t => some (min ((now - t) / (100 * ticksPerMs)) 65535)
            | none => r.interval } := by
  rw [acceptRecord]
  cases r.lastReply <;> rfl

theorem repeatedRecord_eq (e : PodEntry) (now : Nat) (r : PodRecord) :
    { acceptRecord e now r with deadline := some (now + sec e.staleLimit) } = repeatedRecord e now r := by
  rw [acceptRecord_eq]
  rfl

theorem sampledRecord_eq {e : PodEntry} (he : e.role ≠ .absent) (now : Nat) (r : PodRecord) (p : List Byte) :
    { computeSample e (acceptRecord e now r) p with
        lastSeq := some (charAt p 1), payload := some p, freshness := .fresh,
        deadline := some (now + sec e.staleLimit), sampleCount := satSucc 65535 r.sampleCount } =
      sampled e now r p := by
  have hcold : (-1000 : Int) ≤ 5000 := by decide
  have hdry : (0 : Int) ≤ 10000 := by decide
  cases hrole : e.role with
  | absent => exact absurd hrole he
  | air | surface | dual =>
    cases hreply : r.lastReply <;>
      simp [computeSample, sampled, acceptRecord_eq, hrole, hreply, clampTemp, clampRh, clampInt_fst hcold,
        clampInt_fst hdry, clampInt_snd, Bool.or_assoc, sec, ms, satSucc]

/-- TABLE 2-4: a taken reply, by the length, the status and the sequence of its payload. -/
theorem takeReply_eq (s : State) (i : PodIx) (p : List Byte) :
    let e := s.podEntry i
    let r := tget s.pods i
    s.takeReply i p =
      if sampleLength e.role ≠ some p.length then s.count .roleMismatch
      else if hasSensorFault (charAt p 0) = true then
        { s with pods := tset s.pods i { r with sensorFault := true, missCount := 0 } }.count .sensorFaults
      else if r.freshness = .fresh ∧ r.lastSeq = some (charAt p 1) then
        covering { s with pods := tset s.pods i (repeatedRecord e s.now r) } i
      else podZoneEvaluated (covering { s with pods := tset s.pods i (sampled e s.now r p) } i) i := by
  intro e r
  by_cases hlength : sampleLength e.role ≠ some p.length
  · have htaking : takingOf e r p = .refused := if_pos hlength
    simp [State.takeReply, takenRecord, State.setPod, htaking, hlength, e, r]
  have hrole : e.role ≠ .absent := fun h => hlength (by simp [h, sampleLength])
  rw [if_neg hlength]
  by_cases hfault : hasSensorFault (charAt p 0) = true
  · have htaking : takingOf e r p = .faultReport := by rw [takingOf, if_neg hlength, if_pos hfault]
    simp [State.takeReply, takenRecord, State.setPod, htaking, hfault, e, r]
  rw [if_neg hfault]
  by_cases hrepeat : r.freshness = .fresh ∧ r.lastSeq = some (charAt p 1)
  · have htaking : takingOf e r p = .repeated := by rw [takingOf, if_neg hlength, if_neg hfault, if_pos hrepeat]
    rw [if_pos hrepeat, ← enterCoverage_eq, ← repeatedRecord_eq]
    simp [State.takeReply, takenRecord, State.setPod, htaking, e, r]
  · have htaking : takingOf e r p = .newSample := by rw [takingOf, if_neg hlength, if_neg hfault, if_neg hrepeat]
    rw [if_neg hrepeat, ← evaluatePodZone_eq, ← enterCoverage_eq, ← sampledRecord_eq hrole]
    simp [State.takeReply, takenRecord, State.setPod, htaking, e, r]

/-- Settles O13, from `takeReply_eq` and the payload lengths of TABLE 5-9. -/
theorem takenReplyHasFourOutcomes : Obligations.TakenReplyHasFourOutcomes := by
  unfold Obligations.TakenReplyHasFourOutcomes
  intro s i p e r he
  rw [takeReply_eq]
  refine if_congr ?_ rfl rfl
  change sampleLength e.role ≠ some p.length ↔ _
  cases hrole : e.role with
  | absent => exact absurd hrole he
  | air | surface | dual => simp [sampleLength]

end Sys2Proof.Machine
end

section
/-! PROOFS. A property that every effect keeps is kept by every step. -/

namespace Sys2Proof.Machine

/-! ### Every step, effect by effect -/

/-- A property of states that the queue of commands does not bear on, and that time, both resets and each event's effect
out of reset keep. -/
structure KeptByEffects (P : State → Prop) : Prop where
  queue : ∀ s q, P s → P { s with pending := q }
  elapse : ∀ s dt, P s → P (s.elapse dt)
  enterReset : ∀ s, P s → P s.enterReset
  setUp : ∀ s trate addr, P s → P (s.enterReset.setUp trate addr)
  trunkMark : ∀ s c stop, s.held = false → P s → P (s.trunkMark c stop)
  trunkData : ∀ s c stop, s.held = false → P s → P (s.trunkData c stop)
  trunkGap : ∀ s, s.held = false → P s → P s.trunkGap
  startTransmission : ∀ s, s.held = false → P s → P s.startTransmission
  endTransmission : ∀ s, s.held = false → P s → P s.endTransmission
  startTxn : ∀ s, s.held = false → P s → P s.startTxn
  sendingEnd : ∀ s, s.held = false → P s → P s.sendingEnd
  fieldMark : ∀ s c stop, s.held = false → P s → P (s.fieldMark c stop)
  fieldData : ∀ s c stop, s.held = false → P s → P (s.fieldData c stop)
  fieldGap : ∀ s, s.held = false → P s → P s.fieldGap
  windowExpiry : ∀ s, s.held = false → P s → P s.windowExpiry
  guardExpiry : ∀ s, s.held = false → P s → P s.guardExpiry
  staleExpiry : ∀ s i, s.held = false → P s → P (s.staleExpiry i)
  zoneExpiry : ∀ s z, s.held = false → P s → P (s.zoneExpiry z)
  onTimeExpiry : ∀ s o, s.held = false → P s → P (s.onTimeExpiry o)
  periodExpiry : ∀ s o, s.held = false → P s → P (s.periodExpiry o)
  delayExpiry : ∀ s, s.held = false → P s → P s.delayExpiry
  paceExpiry : ∀ s, s.held = false → P s → P s.paceExpiry
  storeExpiry : ∀ s cellsMatch, s.held = false → P s → P (s.storeExpiry cellsMatch)
  requestArrives : ∀ s kind p, s.held = false → P s → P (s.requestArrives kind p)

namespace KeptByEffects

variable {P : State → Prop}

/-- An event out of reset has its effect, and in reset only lets time pass. -/
theorem event (h : KeptByEffects P) {f : State → State} (hf : ∀ s, s.held = false → P s → P (f s)) {dt : Nat}
    {s t : State} (hs : P s) (ht : Machine.event dt f s = .next t) : P t :=
  event_keeps (h.elapse s dt hs) (fun hheld => hf _ hheld (h.elapse s dt hs)) ht

theorem exec (h : KeptByEffects P) {c : Instr} {s t : State} (hs : P s) (ht : Machine.exec c s = .next t) : P t := by
  cases c with
  | fullReset dt => cases ht; exact h.enterReset _ (h.elapse s dt hs)
  | startUp trate addr => cases ht; exact h.setUp s trate addr hs
  | trunkMarkCharacter _ c stop => exact h.event (fun s => h.trunkMark s c stop) hs ht
  | trunkDataCharacter _ c stop => exact h.event (fun s => h.trunkData s c stop) hs ht
  | gapTimerExpiry _ line =>
    cases line with
    | trunk => exact h.event h.trunkGap hs ht
    | field => exact h.event h.fieldGap hs ht
  | trunkTransmissionStart => exact h.event h.startTransmission hs ht
  | trunkTransmissionEnd => exact h.event h.endTransmission hs ht
  | fieldTransactionStart => exact h.event h.startTxn hs ht
  | fieldSendingEnd => exact h.event h.sendingEnd hs ht
  | fieldMarkCharacter _ c stop => exact h.event (fun s => h.fieldMark s c stop) hs ht
  | fieldDataCharacter _ c stop => exact h.event (fun s => h.fieldData s c stop) hs ht
  | replyWindowExpiry => exact h.event h.windowExpiry hs ht
  | guardTimerExpiry => exact h.event h.guardExpiry hs ht
  | staleDeadlineExpiry _ i => exact h.event (fun s => h.staleExpiry s i) hs ht
  | zoneTimerExpiry _ z => exact h.event (fun s => h.zoneExpiry s z) hs ht
  | onTimeTimerExpiry _ o => exact h.event (fun s => h.onTimeExpiry s o) hs ht
  | periodTimerExpiry _ o => exact h.event (fun s => h.periodExpiry s o) hs ht
  | delayTimerExpiry => exact h.event h.delayExpiry hs ht
  | paceTimerExpiry => exact h.event h.paceExpiry hs ht
  | storeTimerExpiry _ cellsMatch => exact h.event (fun s => h.storeExpiry s cellsMatch) hs ht
  | identify | readStatus | readZone | readPod | readEntry | writePodEntry | writeZoneEntry | writeOutputEntry
  | writeSweepList | writeFieldSettings | copyActive | swap | sweepControlStart | sweepControlStop
  | sweepControlResume | outputControlInhibit | outputControlRelease | store | readCounters | fieldRestart | badKind =>
    exact h.event (fun s => h.requestArrives s _ _) hs ht

/-- What every effect keeps, every step keeps. -/
theorem step (h : KeptByEffects P) {s t : State} (hs : P s) (ht : Machine.step s = .next t) : P t := by
  rw [Machine.step] at ht
  cases hq : s.pending with
  | nil =>
    rw [hq] at ht
    cases ht
    exact hs
  | cons c rest =>
    rw [hq] at ht
    exact h.exec (h.queue s rest hs) ht

end KeptByEffects

end Sys2Proof.Machine
end

section
/-! PROOFS. Every operation on pod records keeps the law that a record stands by its active entry. -/

namespace Sys2Proof.Machine

open Sys2Proof.Stated

/-! ### The clauses of the law of one record, by name (R7, R12, R19, R20, R28, R98) -/

/-- The clauses of `podRanges`. -/
structure PodRanges (r : PodRecord) : Prop where
  air : within (-1000) 5000 r.airTemp
  rh : within 0 10000 r.rh
  surf : within (-1000) 5000 r.surfTemp
  dew : within (-1000) 5000 r.dewPoint
  dewNotAboveAir : ∀ d ∈ r.dewPoint, ∀ t ∈ r.airTemp, d ≤ t

theorem podRanges_iff {r : PodRecord} : podRanges r = true ↔ PodRanges r := by
  rw [podRanges, decide_eq_true_iff]
  exact ⟨fun ⟨hair, hrh, hsurf, hdew, hle⟩ => ⟨hair, hrh, hsurf, hdew, hle⟩,
    fun ⟨hair, hrh, hsurf, hdew, hle⟩ => ⟨hair, hrh, hsurf, hdew, hle⟩⟩

/-- The clauses of `podLaw`. -/
structure PodStands (e : PodEntry) (r : PodRecord) : Prop where
  absentNever : e.role = .absent → r.freshness = .never
  holds : (if r.freshness = .never then neverLaw r else knownLaw e.role r) = true
  deadline : r.deadline = if r.freshness = .fresh then r.lastReply.map (· + sec e.staleLimit) else none
  ranges : PodRanges r
  noFault : ∀ p ∈ r.payload, hasSensorFault (charAt p 0) = false
  misses : r.missCount ≤ 255
  samples : r.sampleCount ≤ 65535
  interval : ∀ n ∈ r.interval, n ≤ 65535

theorem podLaw_iff {e : PodEntry} {r : PodRecord} : podLaw e r = true ↔ PodStands e r := by
  rw [podLaw, decide_eq_true_iff, podRanges_iff]
  exact ⟨fun ⟨ha, hh, hd, hr, hf, hm, hs, hi⟩ => ⟨ha, hh, hd, hr, hf, hm, hs, hi⟩,
    fun ⟨ha, hh, hd, hr, hf, hm, hs, hi⟩ => ⟨ha, hh, hd, hr, hf, hm, hs, hi⟩⟩

namespace PodStands

variable {e : PodEntry} {r : PodRecord}

theorem never (h : PodStands e r) (hn : r.freshness = .never) : neverLaw r = true := by simpa [hn] using h.holds

theorem known (h : PodStands e r) (hn : r.freshness ≠ .never) : knownLaw e.role r = true := by simpa [hn] using h.holds

/-- R20: a record holds an air temperature, an RH and a dew point only where its role is of an air contributor. -/
theorem no_air (h : PodStands e r) (hrole : Role.isAir e.role = false) :
    r.airTemp = none ∧ r.rh = none ∧ r.dewPoint = none := by
  by_cases hn : r.freshness = .never
  · have hnever := h.never hn
    simp only [neverLaw, decide_eq_true_iff] at hnever
    tauto
  · have hknown := h.known hn
    simp only [knownLaw, decide_eq_true_iff, hrole, Option.isSome_eq_false_iff, Option.isNone_iff_eq_none] at hknown
    tauto

/-- R20: a record holds a surface temperature only where its role is of a surface contributor. -/
theorem no_surf (h : PodStands e r) (hrole : Role.isSurface e.role = false) : r.surfTemp = none := by
  by_cases hn : r.freshness = .never
  · have hnever := h.never hn
    simp only [neverLaw, decide_eq_true_iff] at hnever
    tauto
  · have hknown := h.known hn
    simp only [knownLaw, decide_eq_true_iff, hrole, Option.isSome_eq_false_iff, Option.isNone_iff_eq_none] at hknown
    tauto

end PodStands

/-! ### What happens to one record -/

/-- R36, R40: a record returned to NEVER stands by every entry. -/
theorem podStands_returnedToNever (e : PodEntry) {r : PodRecord} (h : r.missCount ≤ 255) :
    PodStands e (returnedToNever r) where
  absentNever _ := rfl
  holds := rfl
  deadline := rfl
  ranges := by constructor <;> simp [within, returnedToNever, neverPod]
  noFault := by simp [returnedToNever, neverPod]
  misses := h
  samples := Nat.zero_le _
  interval := by simp [returnedToNever, neverPod]

theorem podStands_neverPod (e : PodEntry) : PodStands e neverPod :=
  podStands_returnedToNever e (r := neverPod) (Nat.zero_le _)

namespace PodStands

variable {e : PodEntry} {r : PodRecord}

/-- R23, R31, R37: the law bears on neither SENSOR-FAULT nor RESEED, and on the miss count by its limit alone. -/
theorem withFlags (h : PodStands e r) {n : Nat} (hn : n ≤ 255) (fault reseed : Bool) :
    PodStands e { r with sensorFault := fault, reseed := reseed, missCount := n } where
  absentNever := h.absentNever
  holds := h.holds
  deadline := h.deadline
  ranges := ⟨h.ranges.air, h.ranges.rh, h.ranges.surf, h.ranges.dew, h.ranges.dewNotAboveAir⟩
  noFault := h.noFault
  misses := hn
  samples := h.samples
  interval := h.interval

/-- R29: a record that has become STALE holds what it held, with no deadline. -/
theorem stale (h : PodStands e r) (hfresh : r.freshness = .fresh) : PodStands e (staleRecord r) where
  absentNever := fun habsent => by simp [h.absentNever habsent] at hfresh
  holds := h.known (by simp [hfresh])
  deadline := rfl
  ranges := ⟨h.ranges.air, h.ranges.rh, h.ranges.surf, h.ranges.dew, h.ranges.dewNotAboveAir⟩
  noFault := h.noFault
  misses := h.misses
  samples := h.samples
  interval := h.interval

end PodStands

/-- R24: the interval measured at an acceptance saturates. -/
theorem acceptedInterval_le {old : Option Nat} (hold : ∀ n ∈ old, n ≤ 65535) (now : Nat) (last : Option Nat) :
    ∀ n ∈ (match last with
      | some t => some (min ((now - t) / (100 * ticksPerMs)) 65535)
      | none => old), n ≤ 65535 := by
  cases last with
  | none => exact hold
  | some t => simp

/-- R24, R25: a repeat restarts the deadline of a FRESH record. -/
theorem PodStands.repeated {e : PodEntry} {r : PodRecord} (h : PodStands e r) (hfresh : r.freshness = .fresh) (now : Nat) :
    PodStands e (repeatedRecord e now r) where
  absentNever := h.absentNever
  holds := by
    have hknown := h.known (by simp [hfresh])
    simp only [knownLaw, decide_eq_true_iff] at hknown
    simp [repeatedRecord, hfresh, knownLaw, hknown]
  deadline := by simp [repeatedRecord, hfresh, sec, ms]
  ranges := ⟨h.ranges.air, h.ranges.rh, h.ranges.surf, h.ranges.dew, h.ranges.dewNotAboveAir⟩
  noFault := h.noFault
  misses := Nat.zero_le _
  samples := h.samples
  interval := acceptedInterval_le h.interval now r.lastReply

/-- A field that a role may replace stays in the range that the new value and the old field lie in. -/
theorem within_replaced {lo hi x : Int} {old : Option Int} (replaces : Bool) (hx : lo ≤ x ∧ x ≤ hi)
    (hold : within lo hi old) : within lo hi (if replaces then some x else old) := by
  cases replaces with
  | false => exact hold
  | true => simpa [within] using hx

/-- R7, R12: the values of a new sample lie in range, with the dew point not above the air temperature. -/
theorem PodRanges.sampled {r : PodRecord} (h : PodRanges r) (e : PodEntry) (now : Nat) (p : List Byte) :
    PodRanges (sampled e now r p) := by
  have htemp : ∀ {old : Option Int} (seeds : Bool) (x : Int), within (-1000) 5000 old →
      -1000 ≤ filtered seeds e.weight old (max (-1000) (min 5000 x)) ∧
        filtered seeds e.weight old (max (-1000) (min 5000 x)) ≤ 5000 :=
    fun seeds _ hold => filtered_mem seeds e.weight hold (by omega)
  have hrh : ∀ (seeds : Bool) (x : Int), 0 ≤ filtered seeds e.weight r.rh (max 0 (min 10000 x)) ∧
      filtered seeds e.weight r.rh (max 0 (min 10000 x)) ≤ 10000 :=
    fun seeds _ => filtered_mem seeds e.weight h.rh (by omega)
  refine ⟨within_replaced _ (htemp _ _ h.air) h.air, within_replaced _ (hrh _ _) h.rh,
    within_replaced _ (htemp _ _ h.surf) h.surf, within_replaced _ (dewPoint_mem _ _) h.dew, ?_⟩
  simp only [Stated.sampled]
  split
  · rintro d hd t ht
    obtain rfl := Option.some_inj.1 hd
    obtain rfl := Option.some_inj.1 ht
    exact dewPoint_le_air (htemp _ _ h.air).1 (htemp _ _ h.air).2 (hrh _ _).1 (hrh _ _).2
  · exact h.dewNotAboveAir

/-- R19, R20, R26, R28, R98: a new sample of the right length and without a fault leaves a record that stands. -/
theorem PodStands.sampled {e : PodEntry} {r : PodRecord} (h : PodStands e r) (now : Nat) {p : List Byte}
    (hlength : sampleLength e.role = some p.length) (hfault : hasSensorFault (charAt p 0) = false) :
    PodStands e (sampled e now r p) where
  absentNever habsent := by simp [habsent, sampleLength] at hlength
  holds := by
    cases hrole : e.role with
    | absent => simp [hrole, sampleLength] at hlength
    | air =>
      have hsurf := h.no_surf (by rw [hrole]; rfl)
      rw [hrole] at hlength
      simp [Stated.sampled, knownLaw, Role.isAir, Role.isSurface, hrole, hsurf, hlength]
    | surface =>
      obtain ⟨hair, hrh, hdew⟩ := h.no_air (by rw [hrole]; rfl)
      rw [hrole] at hlength
      simp [Stated.sampled, knownLaw, Role.isAir, Role.isSurface, hrole, hair, hrh, hdew, hlength]
    | dual =>
      rw [hrole] at hlength
      simp [Stated.sampled, knownLaw, Role.isAir, Role.isSurface, hrole, hlength]
  deadline := by simp [Stated.sampled, sec, ms]
  ranges := h.ranges.sampled e now p
  noFault := by simpa [Stated.sampled] using hfault
  misses := Nat.zero_le _
  samples := satSucc_le h.samples
  interval := acceptedInterval_le h.interval now r.lastReply

/-- TABLE 2-4: every outcome of a taken reply leaves a record that stands. -/
theorem PodStands.taken {e : PodEntry} {r : PodRecord} (h : PodStands e r) (now : Nat) (p : List Byte) :
    PodStands e (takenRecord e now r p) := by
  rw [takenRecord]
  by_cases hlength : sampleLength e.role ≠ some p.length
  · rw [takingOf, if_pos hlength]
    exact h
  by_cases hfault : hasSensorFault (charAt p 0) = true
  · rw [takingOf, if_neg hlength, if_pos hfault]
    exact h.withFlags (Nat.zero_le _) true r.reseed
  by_cases hrepeat : r.freshness = .fresh ∧ r.lastSeq = some (charAt p 1)
  · rw [takingOf, if_neg hlength, if_neg hfault, if_pos hrepeat]
    exact repeatedRecord_eq e now r ▸ h.repeated hrepeat.1 now
  · rw [takingOf, if_neg hlength, if_neg hfault, if_neg hrepeat]
    have hrole : e.role ≠ .absent := fun habsent => hlength (by simp [habsent, sampleLength])
    exact sampledRecord_eq hrole now r p ▸ h.sampled now (not_not.1 hlength) (by simpa using hfault)

/-- R28, R38: of its entry the law reads the role, and the stale limit for the deadline of a FRESH record. -/
theorem PodStands.underEntry {old new : PodEntry} {r : PodRecord} (h : PodStands old r) (hrole : old.role = new.role)
    (deadline : Option Nat)
    (hdeadline : deadline = if r.freshness = .fresh then r.lastReply.map (· + sec new.staleLimit) else none) :
    PodStands new { r with deadline := deadline } where
  absentNever habsent := h.absentNever (hrole.trans habsent)
  holds := hrole ▸ h.holds
  deadline := hdeadline
  ranges := ⟨h.ranges.air, h.ranges.rh, h.ranges.surf, h.ranges.dew, h.ranges.dewNotAboveAir⟩
  noFault := h.noFault
  misses := h.misses
  samples := h.samples
  interval := h.interval

theorem relimited_of_fresh {r : PodRecord} {t : Nat} (hfresh : r.freshness = .fresh) (hreply : r.lastReply = some t)
    (limit now : Nat) :
    relimited limit now r =
      if t + sec limit ≤ now then staleRecord r else { r with deadline := some (t + sec limit) } := by
  cases r
  cases hfresh
  cases hreply
  rfl

theorem relimited_of_not_fresh {r : PodRecord} (h : r.freshness ≠ .fresh) (limit now : Nat) :
    relimited limit now r = r := by
  rw [relimited]
  split
  · exact absurd ‹r.freshness = .fresh› h
  · rfl

/-- R38: a new stale limit moves the deadline of a FRESH record, or makes the record STALE. -/
theorem PodStands.relimited {old new : PodEntry} {r : PodRecord} (h : PodStands old r) (hrole : old.role = new.role)
    (now : Nat) : PodStands new (relimited new.staleLimit now r) := by
  by_cases hfresh : r.freshness = .fresh
  · have hknown := h.known (by simp [hfresh])
    simp only [knownLaw, decide_eq_true_iff, Option.isSome_iff_exists] at hknown
    obtain ⟨_, ⟨t, hreply⟩, _⟩ := hknown
    by_cases hpast : t + sec new.staleLimit ≤ now
    · rw [relimited_of_fresh hfresh hreply, if_pos hpast]
      exact (h.stale hfresh).underEntry hrole none rfl
    · rw [relimited_of_fresh hfresh hreply, if_neg hpast]
      exact h.underEntry hrole (some (t + sec new.staleLimit)) (by simp [hfresh, hreply])
  · rw [relimited_of_not_fresh hfresh]
    exact h.underEntry hrole r.deadline (by rw [h.deadline, if_neg hfresh, if_neg hfresh])

/-- R35 to R38: a record that stands by its outgoing entry stands after a swap by its incoming one. -/
theorem PodStands.swapped {old new : PodEntry} {r : PodRecord} (h : PodStands old r) (now : Nat) :
    PodStands new (swapPod old new now r) := by
  rw [swapPod]
  by_cases hrole : old.role = new.role
  · rw [if_neg (not_not.2 hrole)]
    have hreseeded : PodStands old (if calibrationDiffers old new then { r with reseed := true } else r) := by
      split
      · exact h.withFlags h.misses r.sensorFault true
      · exact h
    generalize (if calibrationDiffers old new then { r with reseed := true } else r) = q at hreseeded
    by_cases hlimit : old.staleLimit = new.staleLimit
    · rw [if_neg (not_not.2 hlimit)]
      exact hreseeded.underEntry hrole q.deadline (hlimit ▸ hreseeded.deadline)
    · rw [if_pos hlimit]
      exact hreseeded.relimited hrole now
  · rw [if_pos hrole]
    exact podStands_returnedToNever new h.misses

end Sys2Proof.Machine
end

section
/-! PROOFS. Every effect keeps the pod records standing by their active entries, and so does every step. -/

namespace Sys2Proof.Machine

/-! ### Operations that leave the pod records and the active bank -/

/-- Two states agree on what the law of the pod records reads. -/
def SamePods (s t : State) : Prop := t.pods = s.pods ∧ t.active = s.active

theorem SamePods.refl (s : State) : SamePods s s := ⟨rfl, rfl⟩

theorem SamePods.trans {s t u : State} (h : SamePods s t) (h' : SamePods t u) : SamePods s u :=
  ⟨h'.1.trans h.1, h'.2.trans h.2⟩

theorem SamePods.podsLawful {s t : State} (h : SamePods s t) (hs : s.podsLawful) : t.podsLawful := fun i => by
  rw [State.podEntry, h.1, h.2]
  exact hs i

theorem samePods_foldl {α : Type} {f : State → α → State} (hf : ∀ s a, SamePods s (f s a)) :
    ∀ (l : List α) (s : State), SamePods s (l.foldl f s)
  | [], s => SamePods.refl s
  | a :: l, s => (hf s a).trans (samePods_foldl hf l (f s a))

/-! ### One record written, or every record anew -/

/-- Writing one record that stands by its entry keeps the law. -/
theorem podsLawful_of_tset {s t : State} {i : PodIx} {r : PodRecord} (hpods : t.pods = tset s.pods i r)
    (hactive : t.active = s.active) (hr : PodStands (s.podEntry i) r) (hs : s.podsLawful) : t.podsLawful := by
  have hentry : ∀ j, t.podEntry j = s.podEntry j := fun j => by rw [State.podEntry, State.podEntry, hactive]
  intro j
  rw [hpods, hentry]
  exact tset_forall (P := fun j r => podLaw (s.podEntry j) r = true) (podLaw_iff.2 hr) hs j

theorem podsLawful_of_never {s : State} (h : s.pods = tconst 63 neverPod) : s.podsLawful := fun i => by
  rw [h, tget_tconst]
  exact podLaw_iff.2 (podStands_neverPod _)

theorem takeReply_podsLawful {s : State} (h : s.podsLawful) (i : PodIx) (p : List Byte) : (s.takeReply i p).podsLawful :=
  podsLawful_of_tset (takeReply_pods s i p) (takeReply_active s i p) ((podLaw_iff.1 (h i)).taken s.now p) h

theorem countMiss_podsLawful {s : State} (h : s.podsLawful) (i : PodIx) : (s.countMiss i).podsLawful := by
  have hi := podLaw_iff.1 (h i)
  exact podsLawful_of_tset rfl rfl (hi.withFlags (satSucc_le hi.misses) _ _) h

theorem staleExpiry_podsLawful {s : State} (h : s.podsLawful) (i : PodIx) : (s.staleExpiry i).podsLawful := by
  rw [State.staleExpiry]
  split
  · next hdue => exact podsLawful_of_tset (by simp) (by simp) ((podLaw_iff.1 (h i)).stale hdue.1) h
  · exact h

/-! ### Zones, outputs, sweep and store -/

theorem sweepStart_samePods {s t : State} (h : s.sweepStart = some t) : SamePods s t := by
  rw [State.sweepStart] at h
  split at h
  · cases h
    exact ⟨rfl, rfl⟩
  · cases h

theorem zoneExpiry_samePods (s : State) (z : ZoneIx) : SamePods s (s.zoneExpiry z) := by
  rw [State.zoneExpiry]
  split
  · split <;> simp [SamePods]
  · exact SamePods.refl s

theorem onTimeExpiry_samePods (s : State) (o : OutIx) : SamePods s (s.onTimeExpiry o) := by
  rw [State.onTimeExpiry]
  split <;> simp [SamePods]

theorem periodExpiry_samePods (s : State) (o : OutIx) : SamePods s (s.periodExpiry o) := by
  rw [State.periodExpiry]
  split <;> simp [SamePods]

theorem delayExpiry_samePods (s : State) : SamePods s s.delayExpiry := by
  rw [State.delayExpiry]
  split <;> simp [SamePods]

theorem paceExpiry_samePods (s : State) : SamePods s s.paceExpiry := by
  rw [State.paceExpiry]
  split <;> simp [SamePods]

theorem storeExpiry_samePods (s : State) (cellsMatch : Bool) : SamePods s (s.storeExpiry cellsMatch) := by
  unfold State.storeExpiry
  split
  · split <;> exact ⟨rfl, rfl⟩
  · exact SamePods.refl s

/-! ### Reset, start-up, swap and field restart -/

theorem setUp_podsLawful (s : State) (trate : BitVec 2) (addr : BitVec 6) : (s.setUp trate addr).podsLawful := by
  rw [State.setUp, State.automaticStart]
  generalize hu : State.mk .. = u
  have hnever : u.podsLawful := podsLawful_of_never (by rw [← hu])
  cases hstart : u.sweepStart with
  | none => exact hnever
  | some t => exact (sweepStart_samePods hstart).podsLawful hnever

theorem evaluateOnly_samePods (s : State) (z : ZoneIx) : SamePods s (s.evaluateOnly z) := by simp [SamePods]

theorem zonesAtSwap_samePods (s : State) : SamePods s s.zonesAtSwap :=
  (samePods_foldl (fun t z => by simp [SamePods]) _ s).trans (samePods_foldl evaluateOnly_samePods _ _)

theorem zonesAtRestart_samePods (s : State) : SamePods s s.zonesAtRestart :=
  samePods_foldl (fun t z => by split <;> simp [SamePods]) _ s

theorem podsAtSwap_active (s : State) (old : Bank) : (s.podsAtSwap old).active = s.active := by
  unfold State.active State.podsAtSwap
  rfl

theorem outputsAtSwap_samePods (s : State) (old : Bank) : SamePods s (s.outputsAtSwap old) := by
  unfold SamePods State.active State.outputsAtSwap
  exact ⟨rfl, rfl⟩

theorem sweepAtSwap_samePods (s : State) : SamePods s s.sweepAtSwap := ⟨rfl, rfl⟩

/-- R35 to R38, R168: with the other bank active, every record is handed from its outgoing entry to its incoming one. -/
theorem podsAtSwap_podsLawful {s t : State} (h : s.podsLawful) (hpods : t.pods = s.pods) :
    (t.podsAtSwap s.active).podsLawful := fun i => by
  have hentry : (t.podsAtSwap s.active).podEntry i = t.podEntry i := by
    rw [State.podEntry, State.podEntry, podsAtSwap_active]
  have hrecord : tget (t.podsAtSwap s.active).pods i =
      swapPod (s.podEntry i) (t.podEntry i) t.now (tget s.pods i) := by
    rw [State.podsAtSwap, hpods]
    exact tget_tmap _ _ i
  rw [hentry, hrecord]
  exact podLaw_iff.2 ((podLaw_iff.1 (h i)).swapped t.now)

theorem flip_podsLawful {s : State} (h : s.podsLawful) : s.flip.podsLawful := by
  have hafter : SamePods ({ s with selector := BankNo.other s.selector }.podsAtSwap s.active) s.flip :=
    (zonesAtSwap_samePods _).trans ((outputsAtSwap_samePods _ _).trans (sweepAtSwap_samePods _))
  exact hafter.podsLawful (podsAtSwap_podsLawful h rfl)

theorem redriveAll_samePods (s : State) : SamePods s s.redriveAll := ⟨redriveAll_pods s, redriveAll_active s⟩

/-- R39: after a FIELD-RESTART every record is NEVER. -/
theorem restartField_podsLawful (s : State) : s.restartField.podsLawful := by
  have hnever : s.abandonTxn.podsAtRestart.podsLawful := podsLawful_of_never rfl
  have hafter : SamePods s.abandonTxn.podsAtRestart s.abandonTxn.podsAtRestart.zonesAtRestart.redriveAll :=
    (zonesAtRestart_samePods _).trans (redriveAll_samePods _)
  exact (hafter.trans ⟨setSweep_pods _ _, setSweep_active _ _⟩).podsLawful hnever

/-! ### Management requests -/

theorem setShadow_samePods (s : State) (b : Bank) : SamePods s (s.setShadow b) :=
  ⟨setShadow_pods s b, setShadow_active s b⟩

theorem answer_samePods (s : State) (st : Status) : SamePods s (s.answer st).1 := SamePods.refl s

theorem report_samePods (s : State) (body : List Byte) : SamePods s (s.report body).1 := SamePods.refl s

theorem askZone_samePods (s : State) (p : List Byte) : SamePods s (s.askZone p).1 := by
  unfold State.askZone
  split
  · exact report_samePods s _
  · exact answer_samePods s _

theorem askPod_samePods (s : State) (p : List Byte) : SamePods s (s.askPod p).1 := by
  unfold State.askPod
  split
  · exact report_samePods s _
  · exact answer_samePods s _

theorem askEntry_samePods (s : State) (p : List Byte) : SamePods s (s.askEntry p).1 := by
  unfold State.askEntry
  split
  · split
    · exact report_samePods s _
    · exact answer_samePods s _
  · exact answer_samePods s _

theorem writePod_samePods (s : State) (p : List Byte) : SamePods s (s.writePod p).1 := by
  unfold State.writePod
  split
  · exact setShadow_samePods s _
  · exact answer_samePods s _

theorem writeZone_samePods (s : State) (p : List Byte) : SamePods s (s.writeZone p).1 := by
  unfold State.writeZone
  split
  · exact setShadow_samePods s _
  · exact answer_samePods s _

theorem writeOutput_samePods (s : State) (p : List Byte) : SamePods s (s.writeOutput p).1 := by
  unfold State.writeOutput
  split
  · exact setShadow_samePods s _
  · exact answer_samePods s _

theorem writeList_samePods (s : State) (p : List Byte) : SamePods s (s.writeList p).1 := by
  simp only [State.writeList]
  split
  · exact answer_samePods s _
  · exact setShadow_samePods s _

theorem writeField_samePods (s : State) (p : List Byte) : SamePods s (s.writeField p).1 := by
  unfold State.writeField
  split
  · exact setShadow_samePods s _
  · exact answer_samePods s _

theorem controlSweep_samePods (s : State) (p : List Byte) : SamePods s (s.controlSweep p).1 := by
  unfold State.controlSweep
  split
  · cases hstart : s.sweepStart with
    | none => exact answer_samePods s _
    | some t => exact sweepStart_samePods hstart
  · exact ⟨rfl, rfl⟩
  · unfold State.sweepResume
    split
    · exact ⟨rfl, rfl⟩
    · exact answer_samePods s _
  · exact answer_samePods s _

theorem controlOutput_samePods (s : State) (p : List Byte) : SamePods s (s.controlOutput p).1 := by
  unfold State.controlOutput
  split
  · unfold State.inhibit
    split
    · exact answer_samePods s _
    · exact ⟨rfl, rfl⟩
  · exact ⟨rfl, rfl⟩
  · exact answer_samePods s _

theorem storeRequest_samePods (s : State) : SamePods s s.storeRequest.1 := by
  unfold State.storeRequest
  split
  · exact answer_samePods s _
  · exact ⟨rfl, rfl⟩

theorem askCounters_samePods (s : State) (p : List Byte) : SamePods s (s.askCounters p).1 := by
  unfold State.askCounters
  split
  · exact report_samePods s _
  · exact ⟨rfl, rfl⟩
  · exact answer_samePods s _

/-- R167: a swap either flips the banks or changes nothing. -/
theorem swapBanks_podsLawful {s : State} (h : s.podsLawful) : s.swapBanks.1.podsLawful := by
  unfold State.swapBanks
  split
  · exact h
  · exact flip_podsLawful h

theorem carryOut_podsLawful {s : State} (h : s.podsLawful) (kind : Byte) (p : List Byte) :
    (s.carryOut kind p).1.podsLawful := by
  unfold State.carryOut
  split
  · exact h
  · exact h
  · exact (askZone_samePods s p).podsLawful h
  · exact (askPod_samePods s p).podsLawful h
  · exact (askEntry_samePods s p).podsLawful h
  · exact (writePod_samePods s p).podsLawful h
  · exact (writeZone_samePods s p).podsLawful h
  · exact (writeOutput_samePods s p).podsLawful h
  · exact (writeList_samePods s p).podsLawful h
  · exact (writeField_samePods s p).podsLawful h
  · exact (setShadow_samePods s _).podsLawful h
  · exact swapBanks_podsLawful h
  · exact (controlSweep_samePods s p).podsLawful h
  · exact (controlOutput_samePods s p).podsLawful h
  · exact (storeRequest_samePods s).podsLawful h
  · exact (askCounters_samePods s p).podsLawful h
  · exact restartField_podsLawful s
  · exact h

/-- R171: taking a request, whatever its kind and payload. -/
theorem takeRequest_podsLawful {s : State} (h : s.podsLawful) (kind : Byte) (p : List Byte) :
    (s.takeRequest kind p).1.podsLawful := by
  unfold State.takeRequest
  split
  · exact h
  · split
    · exact h
    · exact carryOut_podsLawful h kind p

/-! ### The trunk port -/

theorem offerTrunk_samePods (s : State) (c : Byte) : SamePods s (s.offerTrunk c) := by
  unfold State.offerTrunk
  split
  · exact ⟨rfl, rfl⟩
  · split <;> exact ⟨rfl, rfl⟩

theorem trunkMark_samePods (s : State) (c : Byte) (stop : Bool) : SamePods s (s.trunkMark c stop) := by
  unfold State.trunkMark
  split
  · split
    · exact offerTrunk_samePods s.touchTrunk c
    · exact ⟨rfl, rfl⟩
  · split
    · exact offerTrunk_samePods s.touchTrunk.abandonTrunk c
    · exact ⟨rfl, rfl⟩
  · exact SamePods.refl s

theorem answerRequest_podsLawful {s : State} (h : s.podsLawful) (k : SlotNo) (kind : Byte) (p : List Byte) :
    (s.answerRequest k kind p).podsLawful := takeRequest_podsLawful h kind p

/-- R141: a complete telegram is answered, joins DOWN-QUEUE or is dropped. -/
theorem completeTrunk_podsLawful {s : State} (h : s.podsLawful) (k : SlotNo) : (s.completeTrunk k).podsLawful := by
  simp only [State.completeTrunk]
  split
  · split
    · exact answerRequest_podsLawful (s := s.count .trunkGood) h k _ _
    · exact h
  · exact h

theorem storeTrunkChar_podsLawful {s : State} (h : s.podsLawful) (k : SlotNo) (c : Byte) :
    (s.storeTrunkChar k c).podsLawful := by
  simp only [State.storeTrunkChar]
  split
  · exact h
  · exact h
  · exact completeTrunk_podsLawful (s := s.fillSlot k _) h k

theorem trunkData_podsLawful {s : State} (h : s.podsLawful) (c : Byte) (stop : Bool) :
    (s.trunkData c stop).podsLawful := by
  unfold State.trunkData
  split
  · exact h
  · split
    · exact storeTrunkChar_podsLawful (s := s.touchTrunk) h _ c
    · exact h
  · exact h

theorem trunkGap_samePods (s : State) : SamePods s s.trunkGap := by
  unfold State.trunkGap
  split
  · split <;> exact ⟨rfl, rfl⟩
  · exact SamePods.refl s

theorem startTransmission_samePods (s : State) : SamePods s s.startTransmission := by
  unfold State.startTransmission
  split
  · split <;> exact ⟨rfl, rfl⟩
  · exact SamePods.refl s

theorem endTransmission_samePods (s : State) : SamePods s s.endTransmission := by
  unfold State.endTransmission
  split
  · split <;> exact ⟨rfl, rfl⟩
  · exact SamePods.refl s

theorem requestArrives_podsLawful {s : State} (h : s.podsLawful) (kind : Byte) (p : List Byte) :
    (s.requestArrives kind p).podsLawful := by
  have hmark := (trunkMark_samePods s (downChar s.ownAddr) true).podsLawful h
  simp only [State.requestArrives]
  split
  · split
    · exact hmark
    · exact completeTrunk_podsLawful (s := State.fillSlot _ _ _) hmark _
  · exact hmark

/-! ### The field port -/

theorem startSweepTxn_samePods (s : State) : SamePods s s.startSweepTxn := by
  unfold State.startSweepTxn
  split
  · split <;> exact ⟨rfl, rfl⟩
  · exact SamePods.refl s

theorem startTxn_samePods (s : State) : SamePods s s.startTxn := by
  unfold State.startTxn
  split
  · split
    · exact ⟨rfl, rfl⟩
    · exact startSweepTxn_samePods s
  · exact SamePods.refl s

theorem sendingEnd_samePods (s : State) : SamePods s s.sendingEnd := by
  unfold State.sendingEnd
  split
  · split
    · split
      · split <;> exact ⟨rfl, rfl⟩
      · exact ⟨rfl, rfl⟩
    · exact SamePods.refl s
  · exact SamePods.refl s

theorem sendHeld_samePods (s : State) (k : SlotNo) (i : PodIx) (stored : List Byte) :
    SamePods s (s.sendHeld k i stored) :=
  ⟨sendHeld_pods s k i stored, sendHeld_active s k i stored⟩

/-- R127, R128: a miss counts at the pod's record, and a held reply changes no record. -/
theorem missTxn_podsLawful {s : State} (h : s.podsLawful) (t : Txn) (k : SlotNo) : (s.missTxn t k).podsLawful := by
  have hcounted : ∀ a : Option PodIx,
      (match a with
        | some i => (s.count .fieldMisses).countMiss i
        | none => s.count .fieldMisses).podsLawful := fun a => by
    cases a with
    | none => exact h
    | some i => exact countMiss_podsLawful (s := s.count .fieldMisses) h i
  simp only [State.missTxn]
  split
  · exact (sendHeld_samePods _ _ _ _).podsLawful (hcounted _)
  · exact hcounted _

theorem badReply_podsLawful {s : State} (h : s.podsLawful) (t : Txn) (k : SlotNo) : (s.badReply t k).podsLawful :=
  missTxn_podsLawful (s := s.count .fieldBad) h t k

theorem forwardSample_podsLawful {s : State} (h : s.podsLawful) (k : SlotNo) (i : PodIx) (reply : List Byte) :
    (s.forwardSample k i reply).podsLawful := by
  unfold State.forwardSample
  split
  · split
    · exact takeReply_podsLawful (s := s.count .annotSkipped) h i _
    · split <;> exact takeReply_podsLawful h i _
  · exact takeReply_podsLawful h i _

/-- R123, TABLE 7-3: a good reply is delivered to the record of its pod, if it has one, and to no other. -/
theorem goodReply_podsLawful {s : State} (h : s.podsLawful) (t : Txn) (k : SlotNo) : (s.goodReply t k).podsLawful := by
  simp only [State.goodReply]
  split
  · exact forwardSample_podsLawful (s := s.count .fieldReplies) h k _ _
  · exact h
  · exact takeReply_podsLawful (s := s.count .fieldReplies) h _ _
  · exact h

theorem storeReplyChar_podsLawful {s : State} (h : s.podsLawful) (t : Txn) (k : SlotNo) (c : Byte) :
    (s.storeReplyChar t k c).podsLawful := by
  simp only [State.storeReplyChar]
  split
  · exact h
  · exact badReply_podsLawful (s := s.fillSlot k _) h t k
  · split
    · exact goodReply_podsLawful (s := s.fillSlot k _) h t k
    · exact badReply_podsLawful (s := s.fillSlot k _) h t k

theorem fieldMark_podsLawful {s : State} (h : s.podsLawful) (c : Byte) (stop : Bool) :
    (s.fieldMark c stop).podsLawful := by
  unfold State.fieldMark
  split
  · split <;> exact h
  · exact h
  · split <;> exact h
  · split <;> exact badReply_podsLawful (s := s.touchField) h _ _
  · split <;> exact h

theorem fieldData_podsLawful {s : State} (h : s.podsLawful) (c : Byte) (stop : Bool) :
    (s.fieldData c stop).podsLawful := by
  unfold State.fieldData
  split
  · exact h
  · exact h
  · exact h
  · split
    · exact storeReplyChar_podsLawful (s := s.touchField) h _ _ c
    · exact badReply_podsLawful (s := s.touchField) h _ _
  · exact h

theorem fieldGap_podsLawful {s : State} (h : s.podsLawful) : s.fieldGap.podsLawful := by
  unfold State.fieldGap
  split
  · split
    · exact badReply_podsLawful h _ _
    · exact h
  · exact h

theorem windowExpiry_podsLawful {s : State} (h : s.podsLawful) : s.windowExpiry.podsLawful := by
  unfold State.windowExpiry
  split
  · split
    · exact missTxn_podsLawful h _ _
    · exact h
  · exact h

theorem guardExpiry_samePods (s : State) : SamePods s s.guardExpiry := by
  unfold State.guardExpiry
  split
  · split <;> exact ⟨rfl, rfl⟩
  · exact SamePods.refl s

/-! ### Every step -/

theorem podsLawful_keptByEffects : KeptByEffects State.podsLawful where
  queue _ _ h := h
  elapse _ _ h := h
  enterReset _ h := h
  setUp s trate addr _ := setUp_podsLawful s.enterReset trate addr
  trunkMark s c stop _ := (trunkMark_samePods s c stop).podsLawful
  trunkData _ c stop _ h := trunkData_podsLawful h c stop
  trunkGap s _ := (trunkGap_samePods s).podsLawful
  startTransmission s _ := (startTransmission_samePods s).podsLawful
  endTransmission s _ := (endTransmission_samePods s).podsLawful
  startTxn s _ := (startTxn_samePods s).podsLawful
  sendingEnd s _ := (sendingEnd_samePods s).podsLawful
  fieldMark _ c stop _ h := fieldMark_podsLawful h c stop
  fieldData _ c stop _ h := fieldData_podsLawful h c stop
  fieldGap _ _ := fieldGap_podsLawful
  windowExpiry _ _ := windowExpiry_podsLawful
  guardExpiry s _ := (guardExpiry_samePods s).podsLawful
  staleExpiry _ i _ h := staleExpiry_podsLawful h i
  zoneExpiry s z _ := (zoneExpiry_samePods s z).podsLawful
  onTimeExpiry s o _ := (onTimeExpiry_samePods s o).podsLawful
  periodExpiry s o _ := (periodExpiry_samePods s o).podsLawful
  delayExpiry s _ := (delayExpiry_samePods s).podsLawful
  paceExpiry s _ := (paceExpiry_samePods s).podsLawful
  storeExpiry s cellsMatch _ := (storeExpiry_samePods s cellsMatch).podsLawful
  requestArrives _ kind p _ h := requestArrives_podsLawful h kind p

/-- Settles O15: every effect keeps the law, so every step does. -/
theorem everyStepKeepsPodRecordsLawful : Obligations.EveryStepKeepsPodRecordsLawful := by
  unfold Obligations.EveryStepKeepsPodRecordsLawful
  exact fun s t => podsLawful_keptByEffects.step

end Sys2Proof.Machine
end

section
/-! PROOFS. What a management request can leave: one lemma says it for every request, and invariants are read off it. -/

namespace Sys2Proof.Machine

/-! ### The states a request can leave (R171) -/

/-- The states that taking a request can leave, block by block, with what each change is guarded by. -/
inductive Requested (s : State) : State → Prop
  | unchanged : Requested s s
  | statusRead : Requested s { s with changeSet := 0 }
  | podWritten {p : List Byte} {e : PodEntry} {c : Bool} (i : PodIx) (hbody : readPodBody p 1 = some (e, c)) :
      Requested s (s.setShadow { s.shadow with pods := tset s.shadow.pods i e })
  | zoneWritten {p : List Byte} {e : ZoneEntry} {c : Bool} (z : ZoneIx) (hbody : readZoneBody p 1 = some (e, c)) :
      Requested s (s.setShadow { s.shadow with zones := tset s.shadow.zones z e })
  | outputWritten {p : List Byte} {e : OutputEntry} {c : Bool} (o : OutIx) (hbody : readOutputBody p 1 = some (e, c)) :
      Requested s (s.setShadow { s.shadow with outputs := tset s.shadow.outputs o e })
  | listWritten {start len : Nat} {addrs : List (Option PodIx)} (hfits : listWriteRefused start len addrs = false) :
      Requested s (s.setShadow { s.shadow with sweepList := writtenList s.shadow.sweepList start len addrs })
  | fieldWritten {p : List Byte} {f : FieldSettings} {g : SweepProgram} {c : Bool}
      (hbody : readFieldBody p = some ((f, g), c)) :
      Requested s (s.setShadow { s.shadow with field := f, program := g })
  | copied : Requested s (s.setShadow s.active)
  | swapped (hvalid : validate s.shadow = none) : Requested s s.flip
  | sweepStarted {t : State} (hstart : s.sweepStart = some t) : Requested s t
  | sweepStopped : Requested s (s.setSweep (stopSweep s.sweep))
  | sweepResumed {t : State} (hresume : s.sweepResume = some t) : Requested s t
  | inhibited (o : OutIx) (hmode : (tget s.active.outputs o).mode ≠ .off) :
      Requested s (s.setOutput o (inhibitRecord (tget s.outputs o)))
  | released (o : OutIx) :
      Requested s (s.setOutput o (releaseRecord (tget s.active.outputs o) s.zones s.now (tget s.outputs o)))
  | storeBegun (hidle : s.storeState ≠ .writing) : Requested s s.beginStore
  | countersCleared : Requested s { s with counters := tconst 15 0 }
  | fieldRestarted : Requested s s.restartField

/-! ### Request by request -/

theorem askZone_state (s : State) (p : List Byte) : (s.askZone p).1 = s := by
  unfold State.askZone
  split <;> rfl

theorem askPod_state (s : State) (p : List Byte) : (s.askPod p).1 = s := by
  unfold State.askPod
  split <;> rfl

theorem askEntry_state (s : State) (p : List Byte) : (s.askEntry p).1 = s := by
  unfold State.askEntry
  split
  · split <;> rfl
  · rfl

theorem writePod_requested (s : State) (p : List Byte) : Requested s (s.writePod p).1 := by
  unfold State.writePod
  split
  · next i e c _ hbody => exact .podWritten i hbody
  · exact .unchanged

theorem writeZone_requested (s : State) (p : List Byte) : Requested s (s.writeZone p).1 := by
  unfold State.writeZone
  split
  · next z e c _ hbody => exact .zoneWritten z hbody
  · exact .unchanged

theorem writeOutput_requested (s : State) (p : List Byte) : Requested s (s.writeOutput p).1 := by
  unfold State.writeOutput
  split
  · next o e c _ hbody => exact .outputWritten o hbody
  · exact .unchanged

theorem writeList_requested (s : State) (p : List Byte) : Requested s (s.writeList p).1 := by
  simp only [State.writeList]
  split
  · exact .unchanged
  · next hfits => exact .listWritten (by simpa using hfits)

theorem writeField_requested (s : State) (p : List Byte) : Requested s (s.writeField p).1 := by
  unfold State.writeField
  split
  · next f g c hbody => exact .fieldWritten hbody
  · exact .unchanged

theorem swapBanks_requested (s : State) : Requested s s.swapBanks.1 := by
  unfold State.swapBanks
  split
  · exact .unchanged
  · next hvalid => exact .swapped hvalid

theorem controlSweep_requested (s : State) (p : List Byte) : Requested s (s.controlSweep p).1 := by
  unfold State.controlSweep
  split
  · cases hstart : s.sweepStart with
    | none => exact .unchanged
    | some t => exact .sweepStarted hstart
  · exact .sweepStopped
  · cases hresume : s.sweepResume with
    | none => exact .unchanged
    | some t => exact .sweepResumed hresume
  · exact .unchanged

theorem controlOutput_requested (s : State) (p : List Byte) : Requested s (s.controlOutput p).1 := by
  unfold State.controlOutput
  split
  · next o _ _ =>
    unfold State.inhibit
    split
    · exact .unchanged
    · next hmode => exact .inhibited o hmode
  · next o _ _ => exact .released o
  · exact .unchanged

theorem storeRequest_requested (s : State) : Requested s s.storeRequest.1 := by
  unfold State.storeRequest
  split
  · exact .unchanged
  · next hidle => exact .storeBegun hidle

theorem askCounters_requested (s : State) (p : List Byte) : Requested s (s.askCounters p).1 := by
  unfold State.askCounters
  split
  · exact .unchanged
  · exact .countersCleared
  · exact .unchanged

theorem carryOut_requested (s : State) (kind : Byte) (p : List Byte) : Requested s (s.carryOut kind p).1 := by
  unfold State.carryOut
  split
  · exact .unchanged
  · exact .statusRead
  · exact (askZone_state s p).symm ▸ .unchanged
  · exact (askPod_state s p).symm ▸ .unchanged
  · exact (askEntry_state s p).symm ▸ .unchanged
  · exact writePod_requested s p
  · exact writeZone_requested s p
  · exact writeOutput_requested s p
  · exact writeList_requested s p
  · exact writeField_requested s p
  · exact .copied
  · exact swapBanks_requested s
  · exact controlSweep_requested s p
  · exact controlOutput_requested s p
  · exact storeRequest_requested s
  · exact askCounters_requested s p
  · exact .fieldRestarted
  · exact .unchanged

/-- R171: a refused request leaves the state as it was, and any other what its kind gives. -/
theorem takeRequest_requested (s : State) (kind : Byte) (p : List Byte) : Requested s (s.takeRequest kind p).1 := by
  unfold State.takeRequest
  split
  · exact .unchanged
  · split
    · exact .unchanged
    · exact carryOut_requested s kind p

/-- R149: a START that is taken changes the sweep record alone. -/
theorem sweepStart_eq_setSweep {s t : State} (h : s.sweepStart = some t) : ∃ w, t = s.setSweep w := by
  rw [State.sweepStart] at h
  split at h
  · exact ⟨_, (Option.some_inj.1 h).symm⟩
  · cases h

/-- R150: a RESUME that is taken changes the sweep record alone. -/
theorem sweepResume_eq_setSweep {s t : State} (h : s.sweepResume = some t) : ∃ w, t = s.setSweep w := by
  rw [State.sweepResume] at h
  split at h
  · exact ⟨_, (Option.some_inj.1 h).symm⟩
  · cases h

end Sys2Proof.Machine
end

section
/-! PROOFS. An event that writes every zone once, as a swap and a field restart do: what it leaves, zone by zone. -/

namespace Sys2Proof.Machine

open Sys2Proof.Stated

/-! ### The alert line and one zone write (R60) -/

/-- R60: the alert line reads the states of the zones alone. -/
theorem anyAlarm_congr {v w : Vector ZoneRecord 16} (h : ∀ z, (tget v z).state = (tget w z).state) :
    anyAlarm v = anyAlarm w := by
  simp only [anyAlarm_eq, h]

theorem putZone_zones (s : State) (z : ZoneIx) (r : ZoneRecord) :
    (s.putZone z r).zones = tset s.zones z (stampedZone s z r) := by rw [putZone_eq]

/-- R56: a write of the record that stands there changes nothing. -/
theorem putZone_self (s : State) (z : ZoneIx) : s.putZone z (tget s.zones z) = s := by
  rw [putZone_same s rfl, State.setZone, tset_tget]

/-- R60: a zone write keeps the alert line in step with the zones. -/
theorem putZone_alert {s : State} (h : s.alert = anyAlarm s.zones) (z : ZoneIx) (r : ZoneRecord) :
    (s.putZone z r).alert = anyAlarm (s.putZone z r).zones := by
  by_cases hstate : r.state = (tget s.zones z).state
  · rw [putZone_same s hstate, setZone_alert, setZone_zones, h]
    refine anyAlarm_congr fun y => ?_
    rw [tget_tset]
    split
    · next hy => rw [← hy, hstate]
    · rfl
  · rw [putZone_changed s hstate]

theorem getLsbD_zoneBit (z y : ZoneIx) : (zoneBit z).getLsbD y.val = decide (y = z) := by
  revert z y
  decide

/-- R58: a zone joins the change set where the write changes its state, and no other zone does. -/
theorem putZone_changeSet (s : State) (z : ZoneIx) (r : ZoneRecord) (y : ZoneIx) :
    (s.putZone z r).changeSet.getLsbD y.val =
      (s.changeSet.getLsbD y.val || decide (y = z ∧ r.state ≠ (tget s.zones z).state)) := by
  rw [putZone_eq]
  by_cases hstate : r.state = (tget s.zones z).state
  · simp [hstate]
  · rw [if_neg hstate, BitVec.getLsbD_or, getLsbD_zoneBit]
    simp [hstate]

/-! ### Every zone written once -/

/-- Two states differ in the zones, the change set and the alert line at most. -/
def ZonesApart (s t : State) : Prop :=
  ∃ zones changeSet alert, t = { s with zones := zones, changeSet := changeSet, alert := alert }

theorem ZonesApart.refl (s : State) : ZonesApart s s := ⟨s.zones, s.changeSet, s.alert, rfl⟩

theorem ZonesApart.trans {s t u : State} (h : ZonesApart s t) (h' : ZonesApart t u) : ZonesApart s u := by
  obtain ⟨_, _, _, rfl⟩ := h
  obtain ⟨zones, changeSet, alert, rfl⟩ := h'
  exact ⟨zones, changeSet, alert, rfl⟩

theorem zonesApart_putZone (s : State) (z : ZoneIx) (r : ZoneRecord) : ZonesApart s (s.putZone z r) :=
  ⟨_, _, _, putZone_eq s z r⟩

/-- Each zone has been rewritten from its record, with the effects of R56, R58 and R60, and nothing else has changed. -/
structure Rezoned (rewrite : ZoneIx → ZoneRecord → ZoneRecord) (s t : State) : Prop where
  apart : ZonesApart s t
  zones : ∀ z, tget t.zones z = stampedZone s z (rewrite z (tget s.zones z))
  changeSet : ∀ z : ZoneIx, t.changeSet.getLsbD z.val =
    (s.changeSet.getLsbD z.val || decide ((rewrite z (tget s.zones z)).state ≠ (tget s.zones z).state))
  alert : s.alert = anyAlarm s.zones → t.alert = anyAlarm t.zones

theorem stampedZone_self (s : State) (z : ZoneIx) : stampedZone s z (tget s.zones z) = tget s.zones z := if_pos rfl

theorem rezoned_refl (s : State) : Rezoned (fun _ r => r) s s where
  apart := ZonesApart.refl s
  zones z := (stampedZone_self s z).symm
  changeSet := by simp
  alert h := h

/-- One zone more is rewritten, which had been left as it was. -/
theorem Rezoned.putZone {f g : ZoneIx → ZoneRecord → ZoneRecord} {s t : State} {z : ZoneIx} (h : Rezoned f s t)
    (hz : ∀ r, f z r = r) (hother : ∀ y, y ≠ z → g y = f y) : Rezoned g s (t.putZone z (g z (tget t.zones z))) := by
  have hold : tget t.zones z = tget s.zones z := by rw [h.zones, hz, stampedZone_self]
  have hnow : t.now = s.now := by
    obtain ⟨_, _, _, rfl⟩ := h.apart
    rfl
  refine ⟨h.apart.trans (zonesApart_putZone t z _), fun y => ?_, fun y => ?_, fun halert => ?_⟩
  · rw [putZone_zones, tget_tset]
    split
    · next hy => rw [← hy, stampedZone, stampedZone, hold, hnow]
    · next hy => rw [h.zones, hother y (Ne.symm hy)]
  · rw [putZone_changeSet, h.changeSet, hold]
    by_cases hy : y = z
    · simp [hy, hz]
    · simp [hy, hother y hy]
  · exact putZone_alert (h.alert halert) z _

/-- A pass over the zones, in which each turn rewrites its own zone by what the state apart from the zones gives,
rewrites every zone. -/
theorem rezoned_foldl {f : ZoneIx → ZoneRecord → ZoneRecord} {turn : State → ZoneIx → State} {s : State}
    (hturn : ∀ t z, ZonesApart s t → turn t z = t.putZone z (f z (tget t.zones z))) :
    Rezoned f s ((List.finRange 16).foldl turn s) := by
  have hpass : ∀ l : List ZoneIx, l.Nodup → Rezoned (fun z r => if z ∈ l then f z r else r) s (l.foldl turn s) := by
    intro l
    induction l using List.reverseRecOn with
    | nil => simpa using rezoned_refl s
    | append_singleton l z ih =>
      intro hnodup
      obtain ⟨hl, _, hz⟩ := List.nodup_append.1 hnodup
      have hfresh : z ∉ l := fun hmem => hz z hmem z (by simp) rfl
      have hnext := (ih hl).putZone (z := z) (g := fun y r => if y ∈ l ++ [z] then f y r else r) (by simp [hfresh])
        fun y hy => by simp [hy]
      rw [List.foldl_append, List.foldl_cons, List.foldl_nil, hturn _ z (ih hl).apart]
      simpa using hnext
  simpa [List.mem_finRange] using hpass _ (List.nodup_finRange 16)

/-- One rewriting after another is their composition, where the second does not read the time of last change and does
not undo a change of state of the first. -/
theorem Rezoned.comp {f g : ZoneIx → ZoneRecord → ZoneRecord} {s t u : State} (h : Rezoned f s t) (h' : Rezoned g t u)
    (hmoment : ∀ z r n, g z { r with lastChange := n } = { g z r with lastChange := n })
    (hkept : ∀ z r, (f z r).state ≠ r.state → (g z (f z r)).state ≠ r.state) :
    Rezoned (fun z r => g z (f z r)) s u := by
  have hnow : t.now = s.now := by
    obtain ⟨_, _, _, rfl⟩ := h.apart
    rfl
  refine ⟨h.apart.trans h'.apart, fun z => ?_, fun z => ?_, fun halert => h'.alert (h.alert halert)⟩
  · rw [h'.zones, stampedZone, h.zones, stampedZone, stampedZone, hnow]
    by_cases hfirst : (f z (tget s.zones z)).state = (tget s.zones z).state
    · simp only [hfirst, if_true]
    · rw [if_neg hfirst, if_neg (hkept z _ hfirst), hmoment, ite_self]
  · rw [h'.changeSet, h.changeSet, h.zones, stampedZone]
    by_cases hfirst : (f z (tget s.zones z)).state = (tget s.zones z).state
    · simp [hfirst]
    · simp [hfirst, hkept z _ hfirst]

/-! ### Evaluations keep the moment of the last change -/

theorem stateStep_withLastChange (e : ZoneEntry) (now : Nat) (m : Int) (r : ZoneRecord) (n : Nat) :
    stateStep e now m { r with lastChange := n } = { stateStep e now m r with lastChange := n } := by
  obtain ⟨state, _⟩ := r
  cases state with
  | unused | blind => rfl
  | risk c =>
    simp only [stateStep]
    (repeat' split) <;> rfl

/-- R50 to R53: a state step ends at a risk state. -/
theorem stateStep_ne_unused (e : ZoneEntry) (now : Nat) (m : Int) (r : ZoneRecord) :
    (stateStep e now m r).state ≠ .unused := by
  obtain ⟨state, _⟩ := r
  cases state with
  | unused | blind => simp [stateStep, atRest]
  | risk c =>
    simp only [stateStep]
    (repeat' split) <;> simp [atRest]

theorem evaluateRecord_withLastChange (e : ZoneEntry) (now : Nat) (air surf : List (PodIx × Int)) (r : ZoneRecord)
    (n : Nat) :
    evaluateRecord e now air surf { r with lastChange := n } =
      { evaluateRecord e now air surf r with lastChange := n } := by
  unfold evaluateRecord
  split
  · next a as f fs =>
    exact stateStep_withLastChange e now _
      { r with values := some (valuesOf (highest a as) (lowest f fs)), airCount := _, surfCount := _ } n
  · rfl

/-- R45: an evaluation leaves the time of last change to the write. -/
theorem evaluateRecord_lastChange (e : ZoneEntry) (now : Nat) (air surf : List (PodIx × Int)) (r : ZoneRecord) :
    (evaluateRecord e now air surf r).lastChange = r.lastChange :=
  (congrArg ZoneRecord.lastChange (evaluateRecord_withLastChange e now air surf r r.lastChange) :)

/-- R46, R50: an evaluated zone is not UNUSED. -/
theorem evaluateRecord_ne_unused (e : ZoneEntry) (now : Nat) (air surf : List (PodIx × Int)) (r : ZoneRecord) :
    (evaluateRecord e now air surf r).state ≠ .unused := by
  unfold evaluateRecord
  split
  · exact stateStep_ne_unused e now _ _
  · simp [blindZone]

/-! ### The zones at a swap and at a field restart (R63, R65) -/

/-- A zone that its entry enables is rewritten, and any other is left: a write of the record that it holds. -/
theorem putZone_if (s : State) (z : ZoneIx) (enabled : Bool) (r : ZoneRecord) :
    (if enabled then s.putZone z r else s) = s.putZone z (if enabled then r else tget s.zones z) := by
  cases enabled with
  | true => rfl
  | false => exact (putZone_self s z).symm

/-- R65: every enabled zone goes BLIND. -/
theorem zonesAtRestart_rezoned (s : State) :
    Rezoned (fun z r => if (tget s.active.zones z).enabled then blindZone 0 0 r else r) s s.zonesAtRestart := by
  refine rezoned_foldl fun t z happart => ?_
  obtain ⟨_, _, _, rfl⟩ := happart
  exact putZone_if _ z (tget s.active.zones z).enabled _

/-- R45, R46: the record that a pass of evaluations makes of a zone's record: a zone not enabled is not evaluated. -/
def evaluatedZone (s : State) (z : ZoneIx) (r : ZoneRecord) : ZoneRecord :=
  if (tget s.active.zones z).enabled then
    evaluateRecord (tget s.active.zones z) s.now (s.freshAir z) (s.freshSurface z) r
  else r

theorem evaluatedZone_apart {s t : State} (h : ZonesApart s t) : evaluatedZone t = evaluatedZone s := by
  obtain ⟨_, _, _, rfl⟩ := h
  rfl

theorem evaluatedZone_withLastChange (s : State) (z : ZoneIx) (r : ZoneRecord) (n : Nat) :
    evaluatedZone s z { r with lastChange := n } = { evaluatedZone s z r with lastChange := n } := by
  rw [evaluatedZone, evaluatedZone]
  split
  · exact evaluateRecord_withLastChange ..
  · rfl

/-- R45, R63: every enabled zone is evaluated. -/
theorem evaluateOnly_rezoned (s : State) :
    Rezoned (evaluatedZone s) s ((List.finRange 16).foldl State.evaluateOnly s) := by
  refine rezoned_foldl fun t z happart => ?_
  obtain ⟨_, _, _, rfl⟩ := happart
  exact putZone_if _ z (tget s.active.zones z).enabled _

/-- R63: each zone is cleared by its new entry. -/
theorem swapZone_rezoned (s : State) :
    Rezoned (fun z => swapZone (tget s.active.zones z).enabled) s
      ((List.finRange 16).foldl
        (fun t z => t.putZone z (swapZone (tget t.active.zones z).enabled (tget t.zones z))) s) := by
  refine rezoned_foldl fun t z happart => ?_
  obtain ⟨_, _, _, rfl⟩ := happart
  rfl

theorem swapZone_unused {r : ZoneRecord} (h : r.state = .unused) : swapZone true r = blindZone 0 0 r := if_pos h

theorem swapZone_used {r : ZoneRecord} (h : r.state ≠ .unused) :
    swapZone true r = { r with target := none, timer := .none } := if_neg h

/-- R63: clearing and then evaluating a zone gives the record that the statement of a swap names. -/
theorem swappedZone_eq (s : State) (z : ZoneIx) (r : ZoneRecord) :
    swappedZone s z r = evaluatedZone s z (swapZone (tget s.active.zones z).enabled r) := by
  rw [swappedZone, evaluatedZone]
  cases (tget s.active.zones z).enabled with
  | false => rfl
  | true =>
    by_cases hunused : r.state = .unused
    · simp only [hunused, swapZone_unused hunused, if_true]
      rfl
    · simp only [hunused, swapZone_used hunused, if_false, if_true, Bool.true_eq_false]

/-- R63: a zone whose clearing changes its state does not come back to that state by its evaluation. -/
theorem evaluatedZone_swapZone_ne {s : State} {z : ZoneIx} {r : ZoneRecord}
    (h : (swapZone (tget s.active.zones z).enabled r).state ≠ r.state) :
    (evaluatedZone s z (swapZone (tget s.active.zones z).enabled r)).state ≠ r.state := by
  rw [evaluatedZone]
  split
  · next henabled =>
    have hunused : r.state = .unused := by
      by_contra hused
      exact h (by rw [henabled, swapZone_used hused])
    rw [hunused]
    exact evaluateRecord_ne_unused _ _ _ _ _
  · exact h

/-- R63: each zone is rewritten as the statement of a swap gives it. -/
theorem zonesAtSwap_rezoned (s : State) : Rezoned (swappedZone s) s s.zonesAtSwap := by
  have hcleared := swapZone_rezoned s
  have hevaluated := evaluateOnly_rezoned ((List.finRange 16).foldl
    (fun t z => t.putZone z (swapZone (tget t.active.zones z).enabled (tget t.zones z))) s)
  rw [evaluatedZone_apart hcleared.apart] at hevaluated
  rw [show swappedZone s = fun z r => evaluatedZone s z (swapZone (tget s.active.zones z).enabled r) from
    funext fun z => funext fun r => swappedZone_eq s z r]
  exact hcleared.comp hevaluated (evaluatedZone_withLastChange s) fun _ _ => evaluatedZone_swapZone_ne

end Sys2Proof.Machine
end

section
/-! PROOFS. Every effect keeps the counters saturated, the stored moments past and the outcome of a transaction in step
with its port, and so does every step. -/

namespace Sys2Proof.Machine

/-! ### The three laws together -/

/-- Section 0.4, R32, R116, R134: the counters, the stored moments and the transaction record stand. -/
abbrev State.booksLawful (s : State) : Prop := s.countersLawful ∧ s.timeLawful ∧ s.txnLawful = true

/-- The last accepted reply of a pod record lies in the past (R24). -/
abbrev repliedBy (now : Nat) (r : PodRecord) : Prop := ∀ t ∈ r.lastReply, t ≤ now

theorem State.booksLawful.counters {s : State} (h : s.booksLawful) : s.countersLawful := h.1

theorem State.booksLawful.time {s : State} (h : s.booksLawful) : s.timeLawful := h.2.1

theorem State.booksLawful.txn {s : State} (h : s.booksLawful) : s.txnLawful = true := h.2.2

theorem State.booksLawful.lastReply {s : State} (h : s.booksLawful) (i : PodIx) : repliedBy s.now (tget s.pods i) := by
  obtain ⟨_, ⟨_, _, hpods, _⟩, _⟩ := h
  exact hpods i

theorem State.booksLawful.lastChange {s : State} (h : s.booksLawful) (z : ZoneIx) :
    (tget s.zones z).lastChange ≤ s.now := by
  obtain ⟨_, ⟨_, _, _, hzones⟩, _⟩ := h
  exact hzones z

/-- A transaction under way: its outcome is open and a reply is expected (R116). -/
def Txn.isOpen (t : Txn) : Prop := t.outcome = none ∧ t.expectsReply = true

theorem txnLawful_awaiting {s : State} {t : Txn} {w : Nat} {k : SlotNo} (h : s.fieldPort = .busy t (.awaiting w k)) :
    s.txnLawful = true ↔ Txn.isOpen t := by
  simp [State.txnLawful, h, Txn.isOpen]

theorem txnLawful_receiving {s : State} {t : Txn} {g : Nat} {k : SlotNo} (h : s.fieldPort = .busy t (.receiving g k)) :
    s.txnLawful = true ↔ Txn.isOpen t := by
  simp [State.txnLawful, h, Txn.isOpen]

theorem txnLawful_guarding {s : State} {t : Txn} {e : Nat} (h : s.fieldPort = .busy t (.guarding e)) :
    s.txnLawful = true ↔ t.outcome.isSome = true := by
  simp [State.txnLawful, h]

theorem txnLawful_sending {s : State} {t : Txn} {copy : List Byte} {e : Nat} {k : Option SlotNo}
    (h : s.fieldPort = .busy t (.sending copy e k)) :
    s.txnLawful = true ↔ t.outcome = if k.isSome then none else some .abandoned := by
  simp [State.txnLawful, h]

/-! ### One update -/

theorem counters_zero_lawful {s : State} (h : s.counters = tconst 15 0) : s.countersLawful := fun c => by
  rw [h, tget_tconst]
  exact Nat.zero_le _

theorem count_booksLawful {s : State} (h : s.booksLawful) (c : Counter) : (s.count c).booksLawful :=
  ⟨tset_forall (P := fun _ n => n ≤ 65535) (satSucc_le (h.counters _)) h.counters, h.2⟩

theorem touchTrunk_booksLawful {s : State} (h : s.booksLawful) : s.touchTrunk.booksLawful := by
  obtain ⟨hcounters, ⟨_, hfield, hpods, hzones⟩, htxn⟩ := h
  exact ⟨hcounters, ⟨le_rfl, hfield, hpods, hzones⟩, htxn⟩

theorem touchField_booksLawful {s : State} (h : s.booksLawful) : s.touchField.booksLawful := by
  obtain ⟨hcounters, ⟨htrunk, _, hpods, hzones⟩, htxn⟩ := h
  exact ⟨hcounters, ⟨htrunk, le_rfl, hpods, hzones⟩, htxn⟩

theorem setPod_booksLawful {s : State} (h : s.booksLawful) (i : PodIx) {r : PodRecord} (hr : repliedBy s.now r) :
    (s.setPod i r).booksLawful := by
  obtain ⟨hcounters, ⟨htrunk, hfield, hpods, hzones⟩, htxn⟩ := h
  exact ⟨hcounters, ⟨htrunk, hfield, tset_forall (P := fun _ r => repliedBy s.now r) hr hpods, hzones⟩, htxn⟩

theorem fillSlot_booksLawful {s : State} (h : s.booksLawful) (k : SlotNo) (t : List Byte) :
    (s.fillSlot k t).booksLawful := h

theorem setTrunk_booksLawful {s : State} (h : s.booksLawful) (p : TrunkPort) : (s.setTrunk p).booksLawful := h

theorem joinUp_booksLawful {s : State} (h : s.booksLawful) (k : SlotNo) : (s.joinUp k).booksLawful := h

theorem outputs_booksLawful {s : State} (h : s.booksLawful) (outputs : Vector OutputRecord 4) :
    { s with outputs := outputs }.booksLawful := h

theorem setSweep_booksLawful {s : State} (h : s.booksLawful) (w : SweepRecord) : (s.setSweep w).booksLawful := h

/-- Every pod record anew, each with its last reply in the past. -/
theorem pods_booksLawful {s : State} (h : s.booksLawful) (pods : Vector PodRecord 63)
    (hpods : ∀ i, repliedBy s.now (tget pods i)) : { s with pods := pods }.booksLawful := by
  obtain ⟨hcounters, ⟨htrunk, hfield, _, hzones⟩, htxn⟩ := h
  exact ⟨hcounters, ⟨htrunk, hfield, hpods, hzones⟩, htxn⟩

theorem setShadow_booksLawful {s : State} (h : s.booksLawful) (b : Bank) : (s.setShadow b).booksLawful := by
  unfold State.setShadow
  split <;> exact h

/-- R116, R134: a port whose transaction record stands may be set. -/
theorem setField_booksLawful {s : State} (h : s.booksLawful) (p : FieldPort) (hp : (s.setField p).txnLawful = true) :
    (s.setField p).booksLawful := ⟨h.counters, h.time, hp⟩

/-- R129: in GUARD the outcome is set. -/
theorem enterGuard_booksLawful {s : State} (h : s.booksLawful) (t : Txn) (o : TxnOutcome) :
    (s.enterGuard t o).booksLawful :=
  setField_booksLawful h _ rfl

/-! ### Zones -/

/-- R56: a zone record whose time of last change is past keeps it so, or takes the moment of the write. -/
theorem stampedZone_lastChange_le {s : State} {z : ZoneIx} {r : ZoneRecord} (h : r.lastChange ≤ s.now) :
    (stampedZone s z r).lastChange ≤ s.now := by
  rw [stampedZone]
  split
  · exact h
  · exact le_rfl

theorem putZone_booksLawful {s : State} (h : s.booksLawful) (z : ZoneIx) {r : ZoneRecord} (hr : r.lastChange ≤ s.now) :
    (s.putZone z r).booksLawful := by
  obtain ⟨hcounters, ⟨htrunk, hfield, hpods, hzones⟩, htxn⟩ := h
  rw [putZone_eq]
  exact ⟨hcounters, ⟨htrunk, hfield, hpods,
    tset_forall (P := fun _ (r : ZoneRecord) => r.lastChange ≤ s.now) (stampedZone_lastChange_le hr) hzones⟩, htxn⟩

/-- R57: the hand-over of a zone changes outputs alone. -/
theorem putAndHandOver_booksLawful {s : State} (h : s.booksLawful) (z : ZoneIx) {r : ZoneRecord}
    (hr : r.lastChange ≤ s.now) : (s.putAndHandOver z r).booksLawful := by
  unfold State.putAndHandOver
  split <;> exact putZone_booksLawful h z hr

theorem evaluatePodZone_booksLawful {s : State} (h : s.booksLawful) (i : PodIx) :
    (s.evaluatePodZone i).booksLawful := by
  unfold State.evaluatePodZone State.evaluate
  split
  · next z _ =>
    split
    · have hkept : (s.evaluated z).lastChange = (tget s.zones z).lastChange := evaluateRecord_lastChange ..
      exact putAndHandOver_booksLawful h z (hkept ▸ h.lastChange z)
    · exact h
  · exact h

/-- R63, R65: a pass over the zones that leaves the time of last change to the writes. -/
theorem Rezoned.booksLawful {rewrite : ZoneIx → ZoneRecord → ZoneRecord} {s t : State} (hpass : Rezoned rewrite s t)
    (hkept : ∀ z r, (rewrite z r).lastChange = r.lastChange) (h : s.booksLawful) : t.booksLawful := by
  have hzones := hpass.zones
  obtain ⟨zones, _, _, rfl⟩ := hpass.apart
  obtain ⟨hcounters, ⟨htrunk, hfield, hpods, hold⟩, htxn⟩ := h
  refine ⟨hcounters, ⟨htrunk, hfield, hpods, fun z => ?_⟩, htxn⟩
  rw [hzones z]
  exact stampedZone_lastChange_le ((hkept z _).symm ▸ hold z)

theorem elapse_booksLawful {s : State} (h : s.booksLawful) (dt : Nat) : (s.elapse dt).booksLawful := by
  obtain ⟨hcounters, ⟨htrunk, hfield, hpods, hzones⟩, htxn⟩ := h
  exact ⟨hcounters, ⟨Nat.le_add_right_of_le htrunk, Nat.le_add_right_of_le hfield,
    fun i t ht => Nat.le_add_right_of_le (hpods i t ht), fun z => Nat.le_add_right_of_le (hzones z)⟩, htxn⟩

/-! ### Pods (R24, R29, R36, R38) -/

theorem acceptRecord_lastReply (e : PodEntry) (now : Nat) (r : PodRecord) :
    (acceptRecord e now r).lastReply = some now := by
  rw [acceptRecord_eq]

theorem computeSample_lastReply (e : PodEntry) (r : PodRecord) (p : List Byte) :
    (computeSample e r p).lastReply = r.lastReply := by
  simp only [computeSample]
  cases e.role <;> rfl

/-- R24: an acceptance is dated now, and any other reply leaves the date. -/
theorem takenRecord_repliedBy {now : Nat} {r : PodRecord} (h : repliedBy now r) (e : PodEntry) (p : List Byte) :
    repliedBy now (takenRecord e now r p) := by
  rw [takenRecord]
  cases takingOf e r p with
  | refused | faultReport => exact h
  | repeated | newSample => simp [repliedBy, acceptRecord_lastReply, computeSample_lastReply]

theorem relimited_lastReply (limit now : Nat) (r : PodRecord) : (relimited limit now r).lastReply = r.lastReply := by
  unfold relimited
  split
  · split <;> rfl
  · rfl

/-- R35 to R38: a swap keeps the date of the last reply, or loses it with the record. -/
theorem swapPod_repliedBy {now : Nat} {r : PodRecord} (h : repliedBy now r) (old new : PodEntry) :
    repliedBy now (swapPod old new now r) := by
  have hreseeded : (if calibrationDiffers old new then { r with reseed := true } else r).lastReply = r.lastReply := by
    split <;> rfl
  rw [swapPod]
  split
  · simp [repliedBy, returnedToNever, neverPod]
  · simp only [repliedBy]
    split
    · rw [relimited_lastReply, hreseeded]
      exact h
    · rw [hreseeded]
      exact h

theorem countMiss_booksLawful {s : State} (h : s.booksLawful) (i : PodIx) : (s.countMiss i).booksLawful :=
  setPod_booksLawful h i (h.lastReply i)

theorem enterCoverage_booksLawful {s : State} (h : s.booksLawful) (i : PodIx) : (s.enterCoverage i).booksLawful := by
  unfold State.enterCoverage
  split <;> exact h

/-- TABLE 2-4: taking a reply, whatever its outcome. -/
theorem takeReply_booksLawful {s : State} (h : s.booksLawful) (i : PodIx) (p : List Byte) :
    (s.takeReply i p).booksLawful := by
  have htaken := setPod_booksLawful h i (takenRecord_repliedBy (h.lastReply i) (s.podEntry i) p)
  simp only [State.takeReply]
  split
  · exact count_booksLawful htaken _
  · exact count_booksLawful htaken _
  · exact enterCoverage_booksLawful htaken i
  · exact evaluatePodZone_booksLawful (enterCoverage_booksLawful htaken i) i

theorem staleExpiry_booksLawful {s : State} (h : s.booksLawful) (i : PodIx) : (s.staleExpiry i).booksLawful := by
  unfold State.staleExpiry
  split
  · exact evaluatePodZone_booksLawful (setPod_booksLawful h i (r := staleRecord _) (h.lastReply i)) i
  · exact h

/-! ### Zones, outputs, sweep and store -/

theorem zoneExpiry_booksLawful {s : State} (h : s.booksLawful) (z : ZoneIx) : (s.zoneExpiry z).booksLawful := by
  unfold State.zoneExpiry
  split
  · split
    · exact putAndHandOver_booksLawful h z (h.lastChange z)
    · exact h
  · exact h

theorem onTimeExpiry_booksLawful {s : State} (h : s.booksLawful) (o : OutIx) : (s.onTimeExpiry o).booksLawful := by
  unfold State.onTimeExpiry
  split <;> exact h

theorem periodExpiry_booksLawful {s : State} (h : s.booksLawful) (o : OutIx) : (s.periodExpiry o).booksLawful := by
  unfold State.periodExpiry
  split <;> exact h

theorem delayExpiry_booksLawful {s : State} (h : s.booksLawful) : s.delayExpiry.booksLawful := by
  unfold State.delayExpiry
  split <;> exact h

theorem paceExpiry_booksLawful {s : State} (h : s.booksLawful) : s.paceExpiry.booksLawful := by
  unfold State.paceExpiry
  split <;> exact h

theorem storeExpiry_booksLawful {s : State} (h : s.booksLawful) (cellsMatch : Bool) :
    (s.storeExpiry cellsMatch).booksLawful := by
  unfold State.storeExpiry
  split
  · split <;> exact h
  · exact h

theorem sweepStart_booksLawful {s t : State} (h : s.booksLawful) (hstart : s.sweepStart = some t) : t.booksLawful := by
  obtain ⟨w, rfl⟩ := sweepStart_eq_setSweep hstart
  exact h

/-! ### Reset, start-up, swap and field restart -/

theorem enterReset_booksLawful {s : State} (h : s.booksLawful) : s.enterReset.booksLawful :=
  ⟨h.counters, h.time, rfl⟩

/-- R186: start-up clears the counters, sets the time base and every moment to 0, and leaves the field port IDLE. -/
theorem setUp_booksLawful (s : State) (trate : BitVec 2) (addr : BitVec 6) : (s.setUp trate addr).booksLawful := by
  rw [State.setUp, State.automaticStart]
  generalize hu : State.mk .. = u
  have hclear : u.booksLawful := by
    subst hu
    exact ⟨counters_zero_lawful rfl, ⟨le_rfl, le_rfl, by simp [neverPod], by simp [resetZone]⟩, rfl⟩
  cases hstart : u.sweepStart with
  | none => exact hclear
  | some t => exact sweepStart_booksLawful hclear hstart

theorem podsAtSwap_booksLawful {s : State} (h : s.booksLawful) (old : Bank) : (s.podsAtSwap old).booksLawful := by
  rw [State.podsAtSwap]
  exact pods_booksLawful h _ fun i => by
    rw [tget_tmap]
    exact swapPod_repliedBy (h.lastReply i) _ _

theorem evaluatedZone_lastChange (s : State) (z : ZoneIx) (r : ZoneRecord) :
    (evaluatedZone s z r).lastChange = r.lastChange := by
  rw [evaluatedZone]
  split
  · exact evaluateRecord_lastChange ..
  · rfl

theorem swapZone_lastChange (enabled : Bool) (r : ZoneRecord) : (swapZone enabled r).lastChange = r.lastChange := by
  unfold swapZone
  split
  · split <;> rfl
  · rfl

theorem zonesAtSwap_booksLawful {s : State} (h : s.booksLawful) : s.zonesAtSwap.booksLawful :=
  (zonesAtSwap_rezoned s).booksLawful
    (fun z r => by rw [swappedZone_eq, evaluatedZone_lastChange, swapZone_lastChange]) h

theorem outputsAtSwap_booksLawful {s : State} (h : s.booksLawful) (old : Bank) : (s.outputsAtSwap old).booksLawful := by
  rw [State.outputsAtSwap]
  exact outputs_booksLawful h _

theorem flip_booksLawful {s : State} (h : s.booksLawful) : s.flip.booksLawful := by
  have hpods := podsAtSwap_booksLawful (s := { s with selector := BankNo.other s.selector }) h s.active
  rw [State.flip, State.sweepAtSwap]
  exact setSweep_booksLawful (outputsAtSwap_booksLawful (zonesAtSwap_booksLawful hpods) _) _

/-- R134: an abandoned transaction has its outcome, in SENDING as in GUARD. -/
theorem abandonTxn_booksLawful {s : State} (h : s.booksLawful) : s.abandonTxn.booksLawful := by
  unfold State.abandonTxn
  split
  · exact h
  · exact setField_booksLawful h _ (by simp [State.txnLawful])
  · exact enterGuard_booksLawful h _ _
  · exact enterGuard_booksLawful h _ _
  · exact h

theorem podsAtRestart_booksLawful {s : State} (h : s.booksLawful) : s.podsAtRestart.booksLawful := by
  rw [State.podsAtRestart]
  exact pods_booksLawful h _ fun i => by simp [repliedBy, neverPod]

theorem zonesAtRestart_booksLawful {s : State} (h : s.booksLawful) : s.zonesAtRestart.booksLawful :=
  (zonesAtRestart_rezoned s).booksLawful (fun z r => by split <;> rfl) h

theorem redriveAll_booksLawful {s : State} (h : s.booksLawful) : s.redriveAll.booksLawful := by
  rw [State.redriveAll]
  exact outputs_booksLawful h _

theorem restartField_booksLawful {s : State} (h : s.booksLawful) : s.restartField.booksLawful :=
  setSweep_booksLawful
    (redriveAll_booksLawful (zonesAtRestart_booksLawful (podsAtRestart_booksLawful (abandonTxn_booksLawful h)))) _

/-! ### Management requests -/

/-- R171: taking a request, whatever it leaves. -/
theorem Requested.booksLawful {s t : State} (hrequest : Requested s t) (h : s.booksLawful) : t.booksLawful := by
  cases hrequest with
  | unchanged | statusRead | sweepStopped | inhibited | released | storeBegun => exact h
  | podWritten | zoneWritten | outputWritten | listWritten | fieldWritten | copied => exact setShadow_booksLawful h _
  | swapped => exact flip_booksLawful h
  | sweepStarted hstart => exact sweepStart_booksLawful h hstart
  | sweepResumed hresume =>
    obtain ⟨w, rfl⟩ := sweepResume_eq_setSweep hresume
    exact h
  | countersCleared => exact ⟨counters_zero_lawful rfl, h.2⟩
  | fieldRestarted => exact restartField_booksLawful h

/-! ### The trunk port -/

theorem offerTrunk_booksLawful {s : State} (h : s.booksLawful) (c : Byte) : (s.offerTrunk c).booksLawful := by
  unfold State.offerTrunk
  split
  · exact count_booksLawful h _
  · split
    · exact count_booksLawful h _
    · exact h

theorem abandonTrunk_booksLawful {s : State} (h : s.booksLawful) : s.abandonTrunk.booksLawful := count_booksLawful h _

theorem trunkMark_booksLawful {s : State} (h : s.booksLawful) (c : Byte) (stop : Bool) :
    (s.trunkMark c stop).booksLawful := by
  unfold State.trunkMark
  split
  · split
    · exact offerTrunk_booksLawful (touchTrunk_booksLawful h) c
    · exact touchTrunk_booksLawful h
  · split
    · exact offerTrunk_booksLawful (abandonTrunk_booksLawful (touchTrunk_booksLawful h)) c
    · exact abandonTrunk_booksLawful (touchTrunk_booksLawful h)
  · exact h

theorem answerRequest_booksLawful {s : State} (h : s.booksLawful) (k : SlotNo) (kind : Byte) (p : List Byte) :
    (s.answerRequest k kind p).booksLawful := by
  have htaken := (takeRequest_requested s kind p).booksLawful h
  exact joinUp_booksLawful (setTrunk_booksLawful (fillSlot_booksLawful htaken k _) _) k

/-- R141: a complete telegram is counted, and answered, queued or dropped. -/
theorem completeTrunk_booksLawful {s : State} (h : s.booksLawful) (k : SlotNo) : (s.completeTrunk k).booksLawful := by
  simp only [State.completeTrunk]
  split
  · split
    · exact answerRequest_booksLawful (count_booksLawful h _) k _ _
    · exact count_booksLawful h _
  · exact count_booksLawful h _

theorem storeTrunkChar_booksLawful {s : State} (h : s.booksLawful) (k : SlotNo) (c : Byte) :
    (s.storeTrunkChar k c).booksLawful := by
  simp only [State.storeTrunkChar]
  split
  · exact h
  · exact abandonTrunk_booksLawful (s := s.fillSlot k _) h
  · exact completeTrunk_booksLawful (s := s.fillSlot k _) h k

theorem trunkData_booksLawful {s : State} (h : s.booksLawful) (c : Byte) (stop : Bool) :
    (s.trunkData c stop).booksLawful := by
  unfold State.trunkData
  split
  · exact touchTrunk_booksLawful h
  · split
    · exact storeTrunkChar_booksLawful (touchTrunk_booksLawful h) _ c
    · exact abandonTrunk_booksLawful (touchTrunk_booksLawful h)
  · exact h

theorem trunkGap_booksLawful {s : State} (h : s.booksLawful) : s.trunkGap.booksLawful := by
  unfold State.trunkGap
  split
  · split
    · exact abandonTrunk_booksLawful h
    · exact h
  · exact h

theorem startTransmission_booksLawful {s : State} (h : s.booksLawful) : s.startTransmission.booksLawful := by
  unfold State.startTransmission
  split
  · split <;> exact h
  · exact h

theorem endTransmission_booksLawful {s : State} (h : s.booksLawful) : s.endTransmission.booksLawful := by
  unfold State.endTransmission
  split
  · split
    · exact touchTrunk_booksLawful (s := s) h
    · exact h
  · exact h

theorem requestArrives_booksLawful {s : State} (h : s.booksLawful) (kind : Byte) (p : List Byte) :
    (s.requestArrives kind p).booksLawful := by
  have hmark := trunkMark_booksLawful h (downChar s.ownAddr) true
  simp only [State.requestArrives]
  split
  · split
    · exact abandonTrunk_booksLawful (s := State.fillSlot _ _ _) hmark
    · exact completeTrunk_booksLawful (s := State.fillSlot _ _ _) hmark _
  · exact hmark

/-! ### The field port -/

/-- R116, R118, R119: a transaction starts with its outcome open and its slot in FIELD-TXN. -/
theorem startSending_booksLawful {s : State} (h : s.booksLawful) (origin : Origin) (k : SlotNo) :
    (s.startSending origin k).booksLawful :=
  setField_booksLawful h _ (by simp [State.txnLawful, State.newTxn])

theorem startSweepTxn_booksLawful {s : State} (h : s.booksLawful) : s.startSweepTxn.booksLawful := by
  unfold State.startSweepTxn
  split
  · split
    · exact startSending_booksLawful (s := s.fillSlot _ _) h .sweep _
    · exact h
  · exact h

theorem startTxn_booksLawful {s : State} (h : s.booksLawful) : s.startTxn.booksLawful := by
  unfold State.startTxn
  split
  · split
    · exact startSending_booksLawful (s := { s with downQ := _ }) h .trunk _
    · exact startSweepTxn_booksLawful h
  · exact h

/-- R120, R134: a request that expects a reply is awaited with its outcome open; any other send ends the transaction. -/
theorem sendingEnd_booksLawful {s : State} (h : s.booksLawful) : s.sendingEnd.booksLawful := by
  unfold State.sendingEnd
  split
  · next t _ _ slot hport =>
    split
    · split
      · split
        · next hreply =>
          have hopen : Txn.isOpen t := ⟨by simpa using (txnLawful_sending hport).1 h.txn, hreply⟩
          refine count_booksLawful (setField_booksLawful (touchField_booksLawful h) _ ?_) _
          exact (txnLawful_awaiting rfl).2 hopen
        · exact enterGuard_booksLawful (touchField_booksLawful h) _ _
      · exact enterGuard_booksLawful (touchField_booksLawful h) _ _
    · exact h
  · exact h

theorem sendHeld_booksLawful {s : State} (h : s.booksLawful) (k : SlotNo) (i : PodIx) (stored : List Byte) :
    (s.sendHeld k i stored).booksLawful := by
  simp only [State.sendHeld]
  split
  · exact joinUp_booksLawful (fillSlot_booksLawful (count_booksLawful (count_booksLawful h _) _) k _) k
  · exact joinUp_booksLawful (fillSlot_booksLawful (count_booksLawful h _) k _) k

/-- R127, R128: a miss is counted, at its pod too where it has one, and may leave a held reply. -/
theorem missTxn_booksLawful {s : State} (h : s.booksLawful) (t : Txn) (k : SlotNo) : (s.missTxn t k).booksLawful := by
  have hcounted := count_booksLawful h .fieldMisses
  simp only [State.missTxn]
  refine enterGuard_booksLawful ?_ t .miss
  cases podOf t.target.toNat with
  | none =>
    cases s.heldFor t with
    | none => exact hcounted
    | some held => exact sendHeld_booksLawful hcounted k _ _
  | some i =>
    cases s.heldFor t with
    | none => exact countMiss_booksLawful hcounted i
    | some held => exact sendHeld_booksLawful (countMiss_booksLawful hcounted i) k _ _

theorem badReply_booksLawful {s : State} (h : s.booksLawful) (t : Txn) (k : SlotNo) : (s.badReply t k).booksLawful :=
  missTxn_booksLawful (count_booksLawful h _) t k

theorem forwardSample_booksLawful {s : State} (h : s.booksLawful) (k : SlotNo) (i : PodIx) (reply : List Byte) :
    (s.forwardSample k i reply).booksLawful := by
  unfold State.forwardSample
  split
  · split
    · exact takeReply_booksLawful (count_booksLawful h _) i _
    · split
      · exact takeReply_booksLawful h i _
      · exact fillSlot_booksLawful (count_booksLawful (takeReply_booksLawful h i _) _) k _
  · exact takeReply_booksLawful h i _

theorem goodReply_booksLawful {s : State} (h : s.booksLawful) (t : Txn) (k : SlotNo) :
    (s.goodReply t k).booksLawful := by
  have hcounted := count_booksLawful h .fieldReplies
  simp only [State.goodReply]
  refine enterGuard_booksLawful ?_ _ _
  split
  · exact joinUp_booksLawful (forwardSample_booksLawful hcounted k _ _) k
  · exact hcounted
  · exact takeReply_booksLawful hcounted _ _
  · exact hcounted

theorem storeReplyChar_booksLawful {s : State} (h : s.booksLawful) {t : Txn} (ht : Txn.isOpen t) (k : SlotNo)
    (c : Byte) : (s.storeReplyChar t k c).booksLawful := by
  simp only [State.storeReplyChar]
  split
  · exact setField_booksLawful (s := s.fillSlot k _) h _ ((txnLawful_receiving rfl).2 ht)
  · exact badReply_booksLawful (s := s.fillSlot k _) h t k
  · split
    · exact goodReply_booksLawful (s := s.fillSlot k _) h t k
    · exact badReply_booksLawful (s := s.fillSlot k _) h t k

/-- R129: a guard run anew keeps the outcome. -/
theorem restartGuard_booksLawful {s : State} (h : s.booksLawful) {t : Txn} (ht : t.outcome.isSome = true) :
    (s.restartGuard t).booksLawful :=
  setField_booksLawful h _ ((txnLawful_guarding rfl).2 ht)

theorem fieldMark_booksLawful {s : State} (h : s.booksLawful) (c : Byte) (stop : Bool) :
    (s.fieldMark c stop).booksLawful := by
  have htouched := touchField_booksLawful h
  unfold State.fieldMark
  split
  · split
    · exact count_booksLawful htouched _
    · exact htouched
  · exact h
  · next hport =>
    split
    · have hopen := (txnLawful_awaiting hport).1 h.txn
      exact setField_booksLawful (s := s.touchField.fillSlot _ _) htouched _ ((txnLawful_receiving rfl).2 hopen)
    · exact htouched
  · split
    · exact count_booksLawful (badReply_booksLawful htouched _ _) _
    · exact badReply_booksLawful htouched _ _
  · next hport =>
    have houtcome := (txnLawful_guarding hport).1 h.txn
    split
    · exact count_booksLawful (restartGuard_booksLawful htouched houtcome) _
    · exact restartGuard_booksLawful htouched houtcome

theorem fieldData_booksLawful {s : State} (h : s.booksLawful) (c : Byte) (stop : Bool) :
    (s.fieldData c stop).booksLawful := by
  have htouched := touchField_booksLawful h
  unfold State.fieldData
  split
  · exact htouched
  · exact h
  · exact htouched
  · next hport =>
    split
    · exact storeReplyChar_booksLawful htouched ((txnLawful_receiving hport).1 h.txn) _ c
    · exact badReply_booksLawful htouched _ _
  · next hport => exact restartGuard_booksLawful htouched ((txnLawful_guarding hport).1 h.txn)

theorem fieldGap_booksLawful {s : State} (h : s.booksLawful) : s.fieldGap.booksLawful := by
  unfold State.fieldGap
  split
  · split
    · exact badReply_booksLawful h _ _
    · exact h
  · exact h

theorem windowExpiry_booksLawful {s : State} (h : s.booksLawful) : s.windowExpiry.booksLawful := by
  unfold State.windowExpiry
  split
  · split
    · exact missTxn_booksLawful h _ _
    · exact h
  · exact h

theorem guardExpiry_booksLawful {s : State} (h : s.booksLawful) : s.guardExpiry.booksLawful := by
  unfold State.guardExpiry
  split
  · split
    · exact setField_booksLawful h .idle rfl
    · exact h
  · exact h

/-! ### Every step -/

theorem booksLawful_keptByEffects : KeptByEffects State.booksLawful where
  queue _ _ h := h
  elapse _ dt h := elapse_booksLawful h dt
  enterReset _ h := enterReset_booksLawful h
  setUp s trate addr _ := setUp_booksLawful s.enterReset trate addr
  trunkMark _ c stop _ h := trunkMark_booksLawful h c stop
  trunkData _ c stop _ h := trunkData_booksLawful h c stop
  trunkGap _ _ := trunkGap_booksLawful
  startTransmission _ _ := startTransmission_booksLawful
  endTransmission _ _ := endTransmission_booksLawful
  startTxn _ _ := startTxn_booksLawful
  sendingEnd _ _ := sendingEnd_booksLawful
  fieldMark _ c stop _ h := fieldMark_booksLawful h c stop
  fieldData _ c stop _ h := fieldData_booksLawful h c stop
  fieldGap _ _ := fieldGap_booksLawful
  windowExpiry _ _ := windowExpiry_booksLawful
  guardExpiry _ _ := guardExpiry_booksLawful
  staleExpiry _ i _ h := staleExpiry_booksLawful h i
  zoneExpiry _ z _ h := zoneExpiry_booksLawful h z
  onTimeExpiry _ o _ h := onTimeExpiry_booksLawful h o
  periodExpiry _ o _ h := periodExpiry_booksLawful h o
  delayExpiry _ _ := delayExpiry_booksLawful
  paceExpiry _ _ := paceExpiry_booksLawful
  storeExpiry _ cellsMatch _ h := storeExpiry_booksLawful h cellsMatch
  requestArrives _ kind p _ h := requestArrives_booksLawful h kind p

/-- Settles O60: every effect keeps the three laws together, so every step does. -/
theorem everyStepKeepsCountersTimeAndOutcome : Obligations.EveryStepKeepsCountersTimeAndOutcome := by
  unfold Obligations.EveryStepKeepsCountersTimeAndOutcome
  exact fun s t hcounters htime htxn => booksLawful_keptByEffects.step ⟨hcounters, htime, htxn⟩

end Sys2Proof.Machine
end

section
/-! PROOFS. A request that finds the line and a slot: the state it is taken in, and the state it is answered in. -/

namespace Sys2Proof.Machine

open Sys2Proof.Stated

/-! ### The answer to a request (R101, R107, R141) -/

/-- The state in which a request is taken, when a time has passed: its slot holds it and it is counted. -/
abbrev State.requestTaken (s : State) (dt : Nat) (k : SlotNo) (kind : Byte) (p : List Byte) : State :=
  (s.elapse dt).requestHeld k kind p

/-- R107: a request that finds the port LISTENING and is granted a slot is answered in that slot. -/
theorem event_request {s : State} {k : SlotNo} (h : ready s k) (dt : Nat) (kind : Byte) {p : List Byte}
    (hl : p.length ≤ 32) :
    event dt (fun s => s.requestArrives kind p) s = .next ((s.requestTaken dt k kind p).answerRequest k kind p) := by
  obtain ⟨hheld, hport, hgrant⟩ := h
  rw [event_running hheld, requestArrives_ready (s := s.elapse dt) hport hgrant kind hl]

/-- R103: the response is written over the request that its slot held. -/
theorem requestTaken_slots (s : State) (dt : Nat) (k : SlotNo) (kind : Byte) (p t : List Byte) :
    ((s.requestTaken dt k kind p).fillSlot k t).slots =
      tset s.slots k (overlaid (overlaid (tget s.slots k) (telegram (downChar s.ownAddr) kind p)) t) := by
  simp only [State.requestHeld, State.fillSlot, count_slots, setTrunk_slots, tget_tset_same, tset_tset]
  rfl

/-- R101, R107: a request that changes no more than the records of the blocks is answered with those changes alone. -/
theorem answerRequest_blocks {s : State} {k : SlotNo} (h : ready s k) {dt : Nat} {kind : Byte} {p payload : List Byte}
    {fieldPort : FieldPort} {pods : Vector PodRecord 63} {zones : Vector ZoneRecord 16} {changeSet : BitVec 16}
    {alert : Bool} {outputs : Vector OutputRecord 4} {sweep : SweepRecord} {selector : BankNo}
    (htaken : (s.requestTaken dt k kind p).takeRequest kind p =
      ({ s.requestTaken dt k kind p with
          fieldPort := fieldPort, pods := pods, zones := zones, changeSet := changeSet, alert := alert,
          outputs := outputs, sweep := sweep, selector := selector }, payload)) :
    (s.requestTaken dt k kind p).answerRequest k kind p =
      { answered s dt k kind p payload with
          fieldPort := fieldPort, pods := pods, zones := zones, changeSet := changeSet, alert := alert,
          outputs := outputs, sweep := sweep, selector := selector } := by
  obtain ⟨_, hport, _⟩ := h
  have hslots := requestTaken_slots s dt k kind p (telegram (upChar s.ownAddr) kind payload)
  simp only [State.answerRequest, htaken, answered, ← hslots, hport]
  rfl

/-- R101, R107: a request that changes nothing is answered, and nothing else changes. -/
theorem answerRequest_unchanged {s : State} {k : SlotNo} (h : ready s k) {dt : Nat} {kind : Byte}
    {p payload : List Byte}
    (htaken : (s.requestTaken dt k kind p).takeRequest kind p = (s.requestTaken dt k kind p, payload)) :
    (s.requestTaken dt k kind p).answerRequest k kind p = answered s dt k kind p payload :=
  answerRequest_blocks h htaken

/-! ### READ-POD (R33, R174) -/

theorem ageOf_eq_ageSeconds (now : Nat) (r : PodRecord) : ageOf now r = ageSeconds now r := by
  rw [ageOf, ageSeconds]
  cases r.lastReply <;> rfl

theorem podReport_eq (s : State) (i : PodIx) :
    s.podReport i = Stated.podReport s.now i (s.podEntry i) (tget s.pods i) := by
  simp only [State.podReport, ageOf_eq_ageSeconds]
  rfl

theorem takeRequest_readPod (s : State) (c : Byte) : s.takeRequest 0x53 [c] = s.askPod [c] := rfl

theorem askPod_eq (s : State) (c : Byte) :
    s.askPod [c] =
      match podOf c.toNat with
      | some i => (s, 0 :: Stated.podReport s.now i (s.podEntry i) (tget s.pods i))
      | none => (s, [4]) := by
  rw [State.askPod, show charAt [c] 0 = c from rfl]
  cases podOf c.toNat with
  | none => rfl
  | some i => simp only [podReport_eq, State.report, Status.char]

/-- Settles O36. -/
theorem readPodReportsTheRecord : Obligations.ReadPodReportsTheRecord := by
  unfold Obligations.ReadPodReportsTheRecord
  intro dt c s k h
  change event dt (fun s => s.requestArrives 0x53 [c]) s = _
  rw [event_request h dt 0x53 (by simp)]
  have htaken := (takeRequest_readPod (s.requestTaken dt k 0x53 [c]) c).trans (askPod_eq _ c)
  cases hpod : podOf c.toNat with
  | none =>
    rw [hpod] at htaken
    rw [answerRequest_unchanged h htaken]
  | some i =>
    rw [hpod] at htaken
    rw [answerRequest_unchanged h htaken]
    rfl

end Sys2Proof.Machine
end

section
/-! PROOFS. Start-up (R186), every field of the state that it leaves; and a stale deadline (R29). -/

namespace Sys2Proof.Machine

open Sys2Proof.Stated

/-! ### Start-up (R86, R149, R158, R186) -/

/-- R86: the model's output at the end of full reset is the one stated. -/
theorem startOutput_eq_startedOutput (e : OutputEntry) : startOutput e = startedOutput e := by
  rw [startOutput, startedOutput]
  cases hmode : e.mode with
  | off => rfl
  | level => cases hfail : e.failAction <;> simp [enterFailsafe, failPin, idleOutput, hmode, hfail]
  | proportional => cases hfail : e.failAction <;> simp [periodStart, idleOutput, OutputRecord.cycleLevel, hfail]

/-- R149: a START is refused for mode OFF or an empty list, and otherwise leaves the sweep record stated. -/
theorem sweepStart_eq (s : State) :
    s.sweepStart =
      if s.active.program.startMode = .off ∨ s.active.sweepList = [] then none
      else some (s.setSweep (startedSweep s.active s.now)) := by
  rw [State.sweepStart, startedSweep]
  cases s.active.program.startMode with
  | off => simp [SweepMode.ofStart]
  | rounds | continuous =>
    cases s.active.sweepList with
    | nil => simp
    | cons a l =>
      by_cases hdelay : s.active.program.startDelay = 0 <;>
        simp [SweepMode.ofStart, startSweep, enterRunning, hdelay]

/-- R158: the automatic START at full reset, taken or not, from the sweep record at reset. -/
theorem automaticStart_eq {s : State} (hsweep : s.sweep = idleSweep) :
    s.automaticStart = s.setSweep (startedSweep s.active s.now) := by
  rw [State.automaticStart, sweepStart_eq]
  split
  · next hrefused =>
    rw [startedSweep, if_pos hrefused]
    exact congrArg s.setSweep hsweep
  · rfl

/-- Settles O5: field by field, with the zones and the outputs by their entries and the sweep by `automaticStart_eq`. -/
theorem startUpSetsThePartUp : Obligations.StartUpSetsThePartUp := by
  unfold Obligations.StartUpSetsThePartUp
  intro trate addr s b
  have hbank : s.enterReset.startBank = b := rfl
  have hzones : tmap s.enterReset.zones (fun z _ => resetZone (tget b.zones z).enabled) =
      tmap b.zones (fun _ e => resetZone e.enabled) := table_ext fun z => by simp
  have houtputs : tmap s.enterReset.outputs (fun o _ => startOutput (tget b.outputs o)) =
      tmap b.outputs (fun _ e => startedOutput e) := table_ext fun o => by simp [startOutput_eq_startedOutput]
  change Host.Outcome.next (s.enterReset.setUp trate addr) = _
  rw [State.setUp, automaticStart_eq rfl, hbank, hzones, houtputs]
  rfl

/-! ### A stale deadline (R29) -/

/-- Settles O14: the model's expiry, with `evaluatePodZone_eq` for the evaluation. -/
theorem staleDeadlineHoldsTheValues : Obligations.StaleDeadlineHoldsTheValues := by
  unfold Obligations.StaleDeadlineHoldsTheValues
  intro dt i s hheld r
  change event dt (fun s => s.staleExpiry i) s = _
  rw [event_running hheld, State.staleExpiry, evaluatePodZone_eq]
  rfl

end Sys2Proof.Machine
end

section
/-! PROOFS. A swap that passes (R167, R168): what each block leaves, and the answer. -/

namespace Sys2Proof.Machine

open Sys2Proof.Stated

/-! ### The flip, field by field -/

/-- R168, order 1: the state in which a swap reaches the zones: the new bank is active, and the pods are handed over. -/
def State.podsSwapped (s : State) : State := { s with selector := BankNo.other s.selector }.podsAtSwap s.active

theorem active_other (s : State) : { s with selector := BankNo.other s.selector }.active = s.shadow := by
  unfold State.active State.shadow BankNo.other
  cases s.selector <;> rfl

theorem podsSwapped_eq (s : State) :
    s.podsSwapped = { s with
      selector := BankNo.other s.selector,
      pods := tmap s.pods fun i r => swapPod (tget s.active.pods i) (tget s.shadow.pods i) s.now r } := by
  rw [State.podsSwapped, State.podsAtSwap]
  simp only [State.podEntry, active_other]

theorem podsSwapped_active (s : State) : s.podsSwapped.active = s.shadow := by
  rw [State.podsSwapped, podsAtSwap_active, active_other]

/-! ### The records that the statement names (R35 to R38, R83, R156) -/

/-- R37: what sets RESEED at a swap. -/
theorem calibrationDiffers_eq (old new : PodEntry) :
    calibrationDiffers old new = decide
      (((new.role = .air ∨ new.role = .dual) ∧ (old.airGain ≠ new.airGain ∨ old.airOffset ≠ new.airOffset ∨
        old.rhGain ≠ new.rhGain ∨ old.rhOffset ≠ new.rhOffset)) ∨
      ((new.role = .surface ∨ new.role = .dual) ∧ (old.surfGain ≠ new.surfGain ∨ old.surfOffset ≠ new.surfOffset)) ∨
      old.weight ≠ new.weight) := by
  cases hrole : new.role <;> simp [calibrationDiffers, hrole, Role.isAir, Role.isSurface, Bool.or_assoc]

theorem reseeded_eq (differs : Bool) (r : PodRecord) :
    (if differs then { r with reseed := true } else r) = { r with reseed := r.reseed || differs } := by
  cases differs <;> simp

/-- R35 to R38: the model's pod record at a swap is the one stated. -/
theorem swapPod_eq_swappedPod (old new : PodEntry) (now : Nat) (r : PodRecord) :
    swapPod old new now r = swappedPod old new now r := by
  simp only [swapPod, swappedPod, reseeded_eq, calibrationDiffers_eq]
  by_cases hrole : old.role = new.role
  · rw [if_neg (not_not.2 hrole), if_neg (not_not.2 hrole)]
    cases hfresh : r.freshness with
    | never | stale =>
      rw [relimited_of_not_fresh (by simp), ite_self]
    | fresh =>
      cases hreply : r.lastReply with
      | none => simp [relimited]
      | some t =>
        by_cases hlimit : old.staleLimit = new.staleLimit
        · simp [hlimit]
        · simp only [hlimit, ne_eq, not_false_eq_true, if_true, if_false]
          rw [relimited_of_fresh rfl rfl]
          rfl
  · rw [if_pos hrole, if_pos hrole]
    rfl

theorem swapSweep_eq_swappedSweep (l : List (Option PodIx)) (w : SweepRecord) : swapSweep l w = swappedSweep l w := by
  rfl

theorem recomputeLevel_eq_recomputed {e : OutputEntry} (hmode : e.mode = .level) (zones : Vector ZoneRecord 16)
    (now holds : Nat) (r : OutputRecord) : recomputeLevel e zones r = recomputed e zones now holds r := by
  rw [recomputeLevel, recomputed]
  cases hseen : anySeen e zones with
  | true => simp [hmode]
  | false => cases hfail : e.failAction <;> simp [enterFailsafe, failPin, hmode, hfail]

theorem recomputeProportional_eq_recomputed {e : OutputEntry} (hmode : e.mode = .proportional)
    (zones : Vector ZoneRecord 16) (now holds : Nat) (r : OutputRecord) :
    recomputeProportional e zones now holds r = recomputed e zones now holds r := by
  have hrange : ∀ n : Nat, (0 < n ∧ n < 100) ↔ (1 ≤ n ∧ n ≤ 99) := by omega
  have hcycle : ∀ (n t : Nat), (if 1 ≤ n ∧ n ≤ 99 then some t else none).isSome = decide (1 ≤ n ∧ n ≤ 99) := by
    intro n t
    split <;> simp [*]
  rw [recomputeProportional, recomputed]
  cases hseen : anySeen e zones with
  | true => simp [periodStart, OutputRecord.cycleLevel, hmode, sec, ms, hrange, hcycle]
  | false =>
    cases hfail : e.failAction <;>
      simp [periodStart, OutputRecord.cycleLevel, hmode, hfail, sec, ms, hrange, hcycle]

/-- R83: the model's output record at a swap is the one stated. -/
theorem swapOutput_eq (old new : OutputEntry) (zones : Vector ZoneRecord 16) (now : Nat) (r : OutputRecord) :
    swapOutput old new zones now r =
      if new.mode = .off then idleOutput
      else if r.state = .inhibited then r
      else recomputed new zones now (if old.mode = .proportional then r.demand else 0) r := by
  rw [swapOutput]
  cases hmode : new.mode with
  | off => rfl
  | level => rw [recomputeLevel_eq_recomputed hmode]; rfl
  | proportional => rw [recomputeProportional_eq_recomputed hmode]; rfl

/-- R60: out of reset the alert line is asserted exactly when a zone is at ALARM. -/
theorem alert_of_running {s : State} (h : s.alertLawful) (hheld : s.held = false) : s.alert = anyAlarm s.zones := by
  rw [h, hheld]
  rfl

/-- R42, R63: what a swap makes of a zone record is read from the active bank, the pod records and the time. -/
theorem swappedZone_congr {s t : State} (hactive : t.active = s.active) (hpods : t.pods = s.pods)
    (hnow : t.now = s.now) : swappedZone t = swappedZone s := by
  funext z r
  unfold swappedZone State.freshAir State.freshSurface State.podEntry
  rw [hactive, hpods, hnow]

/-! ### The flip, block by block (R168) -/

/-- R167, R168: what a flip makes of the records of the blocks, where the alert line stands by the zones. -/
structure Flipped (s : State) (pods : Vector PodRecord 63) (zones : Vector ZoneRecord 16) (changeSet : BitVec 16)
    (alert : Bool) (outputs : Vector OutputRecord 4) : Prop where
  eachPod : ∀ i, tget pods i = swappedPod (tget s.active.pods i) (tget s.shadow.pods i) s.now (tget s.pods i)
  eachZone : ∀ z, tget zones z = stampedZone s z
    (swappedZone { s with selector := BankNo.other s.selector, pods := pods } z (tget s.zones z))
  eachChange : ∀ z : ZoneIx, changeSet.getLsbD z.val = (s.changeSet.getLsbD z.val || decide
    ((swappedZone { s with selector := BankNo.other s.selector, pods := pods } z (tget s.zones z)).state ≠
      (tget s.zones z).state))
  alarm : s.alert = anyAlarm s.zones → alert = anyAlarm zones
  eachOutput : ∀ o, tget outputs o =
    swapOutput (tget s.active.outputs o) (tget s.shadow.outputs o) zones s.now (tget s.outputs o)

/-- R167, R168: a flip leaves everything but the selector and the records of the blocks. -/
theorem flip_eq (s : State) : ∃ pods zones changeSet alert outputs, Flipped s pods zones changeSet alert outputs ∧
    s.flip = { s with
      selector := BankNo.other s.selector, pods := pods, zones := zones, changeSet := changeSet, alert := alert,
      outputs := outputs, sweep := swapSweep s.shadow.sweepList s.sweep } := by
  have hactive : s.podsSwapped.zonesAtSwap.active = s.shadow := by
    rw [(zonesAtSwap_samePods _).2, podsSwapped_active]
  have hrezoned := zonesAtSwap_rezoned s.podsSwapped
  rw [State.flip, ← State.podsSwapped, State.sweepAtSwap, (outputsAtSwap_samePods _ _).2, hactive, State.outputsAtSwap,
    hactive]
  rw [podsSwapped_eq] at hrezoned ⊢
  generalize hpods : (tmap s.pods fun i r => swapPod (tget s.active.pods i) (tget s.shadow.pods i) s.now r) = pods
    at hrezoned ⊢
  obtain ⟨happart, hzones, hchangeSet, halert⟩ := hrezoned
  obtain ⟨zones, changeSet, alert, happart⟩ := happart
  rw [happart] at hzones hchangeSet halert ⊢
  exact ⟨pods, zones, changeSet, alert, _,
    { eachPod := fun i => by rw [← hpods, tget_tmap, swapPod_eq_swappedPod]
      eachZone := hzones
      eachChange := hchangeSet
      alarm := halert
      eachOutput := fun o => tget_tmap _ _ o }, rfl⟩

/-! ### The swap -/

theorem takeRequest_swap {s : State} (hvalid : validate s.shadow = none) :
    s.takeRequest 0x5B [] = (s.flip, [0, match s.selector with | .zero => 1 | .one => 0]) := by
  obtain ⟨_, _, _, _, _, _, hflip⟩ := flip_eq s
  have hselector : s.flip.selector = BankNo.other s.selector := by rw [hflip]
  rw [show s.takeRequest 0x5B [] = s.swapBanks from rfl, State.swapBanks, hvalid, hselector]
  cases s.selector <;> rfl

/-- Settles O44: the flip, block by block, in the state in which the request is taken. -/
theorem swapFlipsAndEveryBlockActs : Obligations.SwapFlipsAndEveryBlockActs := by
  unfold Obligations.SwapFlipsAndEveryBlockActs
  intro dt s k h halert hvalid now
  have ⟨hheld, _⟩ := h
  have htaken := takeRequest_swap (s := s.requestTaken dt k 0x5B []) hvalid
  obtain ⟨pods, zones, changeSet, alert, outputs, hflipped, hflip⟩ := flip_eq (s.requestTaken dt k 0x5B [])
  rw [hflip] at htaken
  have hanswer := (event_request h dt 0x5B (by simp)).trans (congrArg _ (answerRequest_blocks h htaken))
  have hrecord : swappedZone { s.requestTaken dt k 0x5B [] with selector := BankNo.other s.selector, pods := pods } =
      swappedZone { s with now := now, selector := BankNo.other s.selector, pods := pods } :=
    swappedZone_congr rfl rfl rfl
  refine ⟨_, hanswer, rfl, rfl, hflipped.eachPod, fun z => ⟨?_, ?_⟩, ?_, fun o => ?_, ?_⟩
  · exact hrecord ▸ hflipped.eachZone z
  · exact hrecord ▸ hflipped.eachChange z
  · exact hflipped.alarm (alert_of_running halert hheld)
  · exact (hflipped.eachOutput o).trans (swapOutput_eq _ _ _ _ _)
  · exact swapSweep_eq_swappedSweep _ _

end Sys2Proof.Machine
end

section
/-! PROOFS. FIELD-RESTART (R179, TABLE 11-2): what each block leaves, and the answer. -/

namespace Sys2Proof.Machine

open Sys2Proof.Stated

/-! ### The field port (R134) -/

/-- R134: the field port once any transaction in progress has been abandoned. -/
def abandonedPort (now : Nat) : FieldPort → FieldPort
  | .idle => .idle
  | .busy t (.sending copy ends _) => .busy { t with outcome := some .abandoned } (.sending copy ends none)
  | .busy t (.awaiting _ _) =>
    .busy { t with outcome := some .abandoned } (.guarding (now + 4 * BitRate.charTime t.rate))
  | .busy t (.receiving _ _) =>
    .busy { t with outcome := some .abandoned } (.guarding (now + 4 * BitRate.charTime t.rate))
  | .busy t (.guarding e) => .busy t (.guarding e)

theorem setField_self {s : State} {p : FieldPort} (h : s.fieldPort = p) : s.setField p = s := by
  rw [State.setField, ← h]

theorem abandonTxn_eq (s : State) : s.abandonTxn = s.setField (abandonedPort s.now s.fieldPort) := by
  rw [State.abandonTxn]
  split
  · next hport => rw [hport, abandonedPort, setField_self hport]
  · next hport => rw [hport, abandonedPort]
  · next hport =>
    rw [hport]
    rfl
  · next hport =>
    rw [hport]
    rfl
  · next hport => rw [hport, abandonedPort, setField_self hport]

/-! ### The restart, block by block -/

/-- R65, R85: what a FIELD-RESTART makes of the zones and the outputs. -/
structure Restarted (s : State) (zones : Vector ZoneRecord 16) (changeSet : BitVec 16) (alert : Bool)
    (outputs : Vector OutputRecord 4) : Prop where
  eachZone : ∀ z, tget zones z =
    stampedZone s z (if (tget s.active.zones z).enabled then blindZone 0 0 (tget s.zones z) else tget s.zones z)
  eachChange : ∀ z : ZoneIx, changeSet.getLsbD z.val = (s.changeSet.getLsbD z.val || decide
    ((if (tget s.active.zones z).enabled then blindZone 0 0 (tget s.zones z) else tget s.zones z).state ≠
      (tget s.zones z).state))
  alarm : s.alert = anyAlarm s.zones → alert = anyAlarm zones
  eachOutput : ∀ o, tget outputs o = redriveRecord (tget s.active.outputs o) zones (tget s.outputs o)

/-- R179: a FIELD-RESTART leaves everything but the records of the field blocks. -/
theorem restartField_eq (s : State) : ∃ zones changeSet alert outputs, Restarted s zones changeSet alert outputs ∧
    s.restartField = { s with
      fieldPort := abandonedPort s.now s.fieldPort, pods := tconst 63 neverPod, zones := zones, changeSet := changeSet,
      alert := alert, outputs := outputs, sweep := restartSweep s.sweep } := by
  have hrezoned := zonesAtRestart_rezoned s.abandonTxn.podsAtRestart
  simp only [State.restartField, State.redriveAll]
  rw [abandonTxn_eq, State.podsAtRestart] at hrezoned ⊢
  generalize tconst 63 neverPod = pods at hrezoned ⊢
  obtain ⟨happart, hzones, hchangeSet, halert⟩ := hrezoned
  obtain ⟨zones, changeSet, alert, happart⟩ := happart
  rw [happart] at hzones hchangeSet halert ⊢
  exact ⟨zones, changeSet, alert, _,
    { eachZone := hzones
      eachChange := hchangeSet
      alarm := halert
      eachOutput := fun o => tget_tmap _ _ o }, rfl⟩

/-! ### Zones and outputs that stand by their entries (R43, R68, R76) -/

theorem stampedZone_state (s : State) (z : ZoneIx) (r : ZoneRecord) : (stampedZone s z r).state = r.state := by
  rw [stampedZone]
  split <;> rfl

/-- R65: where the zones stand by their entries, a restart leaves every zone BLIND or UNUSED. -/
theorem Restarted.blind_or_unused {s : State} {zones : Vector ZoneRecord 16} {changeSet : BitVec 16} {alert : Bool}
    {outputs : Vector OutputRecord 4} (h : Restarted s zones changeSet alert outputs) (hlawful : s.zonesLawful)
    (z : ZoneIx) : (tget zones z).state = .blind ∨ (tget zones z).state = .unused := by
  obtain ⟨hunused, _⟩ := hlawful z
  rw [h.eachZone z, stampedZone_state]
  cases henabled : (tget s.active.zones z).enabled with
  | true => exact .inl rfl
  | false => exact .inr (hunused.2 henabled)

/-- R65: an enabled zone goes BLIND and loses its sight, its timer and its target. -/
theorem Restarted.enabled {s : State} {zones : Vector ZoneRecord 16} {changeSet : BitVec 16} {alert : Bool}
    {outputs : Vector OutputRecord 4} (h : Restarted s zones changeSet alert outputs) {z : ZoneIx}
    (henabled : (tget s.active.zones z).enabled = true) :
    tget zones z =
      { state := .blind, values := none, airCount := 0, surfCount := 0, target := none, timer := .none,
        lastChange := if (tget s.zones z).state = .blind then (tget s.zones z).lastChange else s.now } ∧
    changeSet.getLsbD z.val = (s.changeSet.getLsbD z.val || decide ((tget s.zones z).state ≠ .blind)) := by
  have hzone := h.eachZone z
  have hchange := h.eachChange z
  rw [if_pos henabled] at hzone hchange
  rw [hzone, hchange, stampedZone]
  by_cases hblind : (tget s.zones z).state = .blind
  · simp [blindZone, hblind]
  · simp [blindZone, hblind, Ne.symm hblind]

/-- R65: a zone not enabled is left as it is. -/
theorem Restarted.disabled {s : State} {zones : Vector ZoneRecord 16} {changeSet : BitVec 16} {alert : Bool}
    {outputs : Vector OutputRecord 4} (h : Restarted s zones changeSet alert outputs) {z : ZoneIx}
    (hdisabled : ¬ (tget s.active.zones z).enabled = true) :
    tget zones z = tget s.zones z ∧ changeSet.getLsbD z.val = s.changeSet.getLsbD z.val := by
  have hzone := h.eachZone z
  have hchange := h.eachChange z
  rw [if_neg hdisabled] at hzone hchange
  rw [hzone, hchange, stampedZone_self]
  simp

theorem anySeen_eq_false {zones : Vector ZoneRecord 16}
    (h : ∀ z, (tget zones z).state = .blind ∨ (tget zones z).state = .unused) (e : OutputEntry) :
    anySeen e zones = false := by
  rw [anySeen, List.any_eq_false]
  intro r hr
  obtain ⟨z, _, rfl⟩ := (mem_mappedZones e zones).1 hr
  rcases h z with hz | hz <;> simp [ZoneRecord.isSeen, hz]

theorem anyAlarm_eq_false {zones : Vector ZoneRecord 16}
    (h : ∀ z, (tget zones z).state = .blind ∨ (tget zones z).state = .unused) : anyAlarm zones = false := by
  rw [anyAlarm_eq, List.any_eq_false]
  intro z _
  rcases h z with hz | hz <;> simp [hz]

theorem runningLaw_of_outputLaw {e : OutputEntry} {zones : Vector ZoneRecord 16} {r : OutputRecord}
    (h : outputLaw e zones r = true) (hstate : r.state = .running) : runningLaw e zones r = true := by
  obtain ⟨_, _, _, _, _, _, _, hrunning, _⟩ := of_decide_eq_true h
  exact hrunning hstate

theorem failsafeLaw_of_outputLaw {e : OutputEntry} {zones : Vector ZoneRecord 16} {r : OutputRecord}
    (h : outputLaw e zones r = true) (hstate : r.state = .failsafe) : failsafeLaw e zones r = true := by
  obtain ⟨_, _, _, _, _, _, _, _, hfailsafe⟩ := of_decide_eq_true h
  exact hfailsafe hstate

/-- R76, R85: the output record at a re-drive that finds every mapped zone blind, by the fail action. -/
def blindedOutput (e : OutputEntry) (r : OutputRecord) : OutputRecord :=
  { r with
      state := .failsafe, isPartial := false,
      pin := match e.failAction with
        | .off => false
        | .on => true
        | .hold => r.pin }

/-- R76: a RUNNING output that stands by its zones and enters FAILSAFE with HOLD keeps the pin it has. -/
theorem enterFailsafe_eq_blindedOutput {e : OutputEntry} {zones : Vector ZoneRecord 16} {r : OutputRecord}
    (h : runningLaw e zones r = true) : enterFailsafe e r = blindedOutput e r := by
  obtain ⟨_, _, _, hcycle⟩ := of_decide_eq_true h
  rw [enterFailsafe, blindedOutput, failPin]
  cases e.failAction with
  | off | on => rfl
  | hold =>
    by_cases hmode : e.mode = .proportional
    · simp only [if_pos hmode, (hcycle hmode).1]
    · simp only [if_neg hmode]

/-- R77: an output in FAILSAFE that stands by its zones is as a re-drive would leave it. -/
theorem eq_blindedOutput {e : OutputEntry} {zones : Vector ZoneRecord 16} {r : OutputRecord}
    (hstate : r.state = .failsafe) (h : failsafeLaw e zones r = true) : r = blindedOutput e r := by
  obtain ⟨_, hpartial, hoff, hon, _⟩ := of_decide_eq_true h
  obtain ⟨state, pin, _, _, _, _, isPartial⟩ := r
  cases hfail : e.failAction <;> simp_all [blindedOutput]

/-- R85: a re-drive of an output that stands by its zones, once every zone is blind. -/
theorem redriveRecord_blinded {e : OutputEntry} {old new : Vector ZoneRecord 16} {r : OutputRecord}
    (h : outputLaw e old r = true) (hseen : anySeen e new = false) :
    redriveRecord e new r = if r.state = .idle ∨ r.state = .inhibited then r else blindedOutput e r := by
  cases hstate : r.state with
  | idle | inhibited => simp [redriveRecord_still, hstate]
  | running => simp [redriveRecord, hstate, hseen, enterFailsafe_eq_blindedOutput (runningLaw_of_outputLaw h hstate)]
  | failsafe =>
    simpa [redriveRecord, hstate, hseen] using eq_blindedOutput hstate (failsafeLaw_of_outputLaw h hstate)

/-! ### FIELD-RESTART -/

/-- Settles O52: the restart, block by block, in the state in which the request is taken. -/
theorem fieldRestartClearsStanding : Obligations.FieldRestartClearsStanding := by
  unfold Obligations.FieldRestartClearsStanding
  intro dt s k h hzonesLawful halert houtputs now
  have ⟨hheld, _⟩ := h
  rw [State.outputsLawful, if_neg (by simp [hheld])] at houtputs
  have htaken : (s.requestTaken dt k 0x60 []).takeRequest 0x60 [] = ((s.requestTaken dt k 0x60 []).restartField, [0]) :=
    rfl
  obtain ⟨zones, changeSet, alert, outputs, hrestarted, hrestart⟩ := restartField_eq (s.requestTaken dt k 0x60 [])
  rw [hrestart] at htaken
  have hanswer := (event_request h dt 0x60 (by simp)).trans (congrArg _ (answerRequest_blocks h htaken))
  have hblind := hrestarted.blind_or_unused hzonesLawful
  refine ⟨_, hanswer, rfl, ?_, rfl, fun z => ?_, ?_, fun o => ?_, rfl⟩
  · change abandonedPort now s.fieldPort = _
    cases s.fieldPort with
    | idle => rfl
    | busy t phase => cases phase <;> rfl
  · intro r
    split
    · next henabled => exact hrestarted.enabled henabled
    · next hdisabled => exact hrestarted.disabled hdisabled
  · exact (hrestarted.alarm (alert_of_running halert hheld)).trans (anyAlarm_eq_false hblind)
  · exact (hrestarted.eachOutput o).trans (redriveRecord_blinded (houtputs o) (anySeen_eq_false hblind _))

end Sys2Proof.Machine
end

section
/-! PROOFS. The evaluation of a zone (R42, R46 to R53): its fresh contributors, the wettest and the coldest of them, and
the state step. -/

namespace Sys2Proof.Machine

/-! ### The fresh contributors of a zone (R42, R46) -/

theorem isAir_iff {role : Role} : Role.isAir role = true ↔ role = .air ∨ role = .dual := by
  cases role <;> simp [Role.isAir]

theorem isSurface_iff {role : Role} : Role.isSurface role = true ↔ role = .surface ∨ role = .dual := by
  cases role <;> simp [Role.isSurface]

/-- A place stands in a list with a value exactly where it is selected and its record holds the value. -/
theorem mem_filterMap_selected {n : Nat} {p : Fin n → Prop} [DecidablePred p] {value : Fin n → Option Int} {i : Fin n}
    {d : Int} :
    (i, d) ∈ ((List.finRange n).filterMap fun j => if p j then (value j).map fun v => (j, v) else none) ↔
      p i ∧ value i = some d := by
  simp only [List.mem_filterMap, List.mem_finRange, true_and, Option.ite_none_right_eq_some, Option.map_eq_some_iff,
    Prod.mk.injEq]
  constructor
  · rintro ⟨_, hp, _, hvalue, rfl, rfl⟩
    exact ⟨hp, hvalue⟩
  · exact fun ⟨hp, hvalue⟩ => ⟨i, hp, d, hvalue, rfl, rfl⟩

/-- Places selected in rising order stand in rising order. -/
theorem filterMap_selected_rising {n : Nat} {p : Fin n → Prop} [DecidablePred p] {value : Fin n → Option Int} :
    ((List.finRange n).filterMap fun j => if p j then (value j).map fun v => (j, v) else none).Pairwise
      (·.1 < ·.1) := by
  refine (List.pairwise_lt_finRange n).filterMap _ fun i j hlt x hx y hy => ?_
  simp only [Option.ite_none_right_eq_some, Option.map_eq_some_iff] at hx hy
  obtain ⟨_, _, _, rfl⟩ := hx
  obtain ⟨_, _, _, rfl⟩ := hy
  exact hlt

theorem mem_freshAir {s : State} {z : ZoneIx} {i : PodIx} {d : Int} :
    (i, d) ∈ s.freshAir z ↔
      (s.podEntry i).zone = some z ∧ ((s.podEntry i).role = .air ∨ (s.podEntry i).role = .dual) ∧
        (tget s.pods i).freshness = .fresh ∧ (tget s.pods i).dewPoint = some d := by
  rw [State.freshAir, mem_filterMap_selected, isAir_iff, and_assoc, and_assoc]

theorem mem_freshSurface {s : State} {z : ZoneIx} {i : PodIx} {t : Int} :
    (i, t) ∈ s.freshSurface z ↔
      (s.podEntry i).zone = some z ∧ ((s.podEntry i).role = .surface ∨ (s.podEntry i).role = .dual) ∧
        (tget s.pods i).freshness = .fresh ∧ (tget s.pods i).surfTemp = some t := by
  rw [State.freshSurface, mem_filterMap_selected, isSurface_iff, and_assoc, and_assoc]

/-! ### The wettest air and the coldest surface (R47) -/

/-- The first of the contributors that stand highest by a key. -/
structure FirstHighest (key : Int → Int) (xs : List (PodIx × Int)) (w : PodIx × Int) : Prop where
  mem : w ∈ xs
  highest : ∀ x ∈ xs, key x.2 ≤ key w.2
  first : ∀ x ∈ xs, key x.2 = key w.2 → w.1 ≤ x.1

/-- A contributor that stands no higher than one before it may be left out. -/
theorem FirstHighest.skip {key : Int → Int} {x y w : PodIx × Int} {xs : List (PodIx × Int)}
    (h : FirstHighest key (x :: xs) w) (hrising : x.1 < y.1) (hkey : key y.2 ≤ key x.2) :
    FirstHighest key (x :: y :: xs) w := by
  obtain ⟨hmem, hhighest, hfirst⟩ := h
  simp only [List.mem_cons, forall_eq_or_imp] at hmem hhighest hfirst
  obtain ⟨hx, hxs⟩ := hhighest
  obtain ⟨hfirstx, hfirstxs⟩ := hfirst
  refine ⟨List.mem_cons.2 (hmem.imp_right (List.mem_cons_of_mem y)),
    List.forall_mem_cons.2 ⟨hx, List.forall_mem_cons.2 ⟨hkey.trans hx, hxs⟩⟩,
    List.forall_mem_cons.2 ⟨hfirstx, List.forall_mem_cons.2 ⟨fun heq => ?_, hfirstxs⟩⟩⟩
  exact (hfirstx (by omega)).trans hrising.le

/-- A contributor that stands lower than the next may be left out. -/
theorem FirstHighest.overtake {key : Int → Int} {x y w : PodIx × Int} {xs : List (PodIx × Int)}
    (h : FirstHighest key (y :: xs) w) (hkey : key x.2 < key y.2) : FirstHighest key (x :: y :: xs) w := by
  have hlower : key x.2 < key w.2 := hkey.trans_le (h.highest y (by simp))
  refine ⟨List.mem_cons_of_mem x h.mem, List.forall_mem_cons.2 ⟨hlower.le, h.highest⟩,
    List.forall_mem_cons.2 ⟨fun heq => absurd heq hlower.ne, h.first⟩⟩

/-- A pass that keeps the contributor it has unless the next stands higher ends at the first of the highest. -/
theorem firstHighest_foldl {key : Int → Int} {better : Int → Int → Prop} [DecidableRel better]
    (hbetter : ∀ a b, better a b ↔ key a < key b) :
    ∀ (xs : List (PodIx × Int)) (x : PodIx × Int), (x :: xs).Pairwise (·.1 < ·.1) →
      FirstHighest key (x :: xs) (xs.foldl (fun b y => if better b.2 y.2 then y else b) x)
  | [], x, _ => ⟨by simp, by simp, by simp⟩
  | y :: ys, x, hrising => by
    obtain ⟨hx, hys⟩ := List.pairwise_cons.1 hrising
    rw [List.foldl_cons]
    by_cases hnext : better x.2 y.2
    · rw [if_pos hnext]
      exact (firstHighest_foldl hbetter ys y hys).overtake ((hbetter _ _).1 hnext)
    · rw [if_neg hnext]
      have hrest : (x :: ys).Pairwise (·.1 < ·.1) :=
        List.pairwise_cons.2 ⟨fun a ha => hx a (List.mem_cons_of_mem y ha), (List.pairwise_cons.1 hys).2⟩
      exact (firstHighest_foldl hbetter ys x hrest).skip (hx y (by simp)) (not_lt.1 fun h => hnext ((hbetter _ _).2 h))

theorem firstHighest_highest {x : PodIx × Int} {xs : List (PodIx × Int)} (hrising : (x :: xs).Pairwise (·.1 < ·.1)) :
    FirstHighest (fun d => d) (x :: xs) (highest x xs) :=
  firstHighest_foldl (fun _ _ => Iff.rfl) xs x hrising

theorem firstHighest_lowest {x : PodIx × Int} {xs : List (PodIx × Int)} (hrising : (x :: xs).Pairwise (·.1 < ·.1)) :
    FirstHighest (fun t => -t) (x :: xs) (lowest x xs) :=
  firstHighest_foldl (better := fun a b => b < a) (fun _ _ => Int.neg_lt_neg_iff.symm) xs x hrising

/-! ### One evaluation (R46, R47) -/

theorem stateStep_keeps (e : ZoneEntry) (now : Nat) (m : Int) (r : ZoneRecord) :
    (stateStep e now m r).values = r.values ∧ (stateStep e now m r).airCount = r.airCount ∧
      (stateStep e now m r).surfCount = r.surfCount := by
  obtain ⟨state, _⟩ := r
  cases state with
  | unused | blind => exact ⟨rfl, rfl, rfl⟩
  | risk c =>
    simp only [stateStep]
    (repeat' split) <;> exact ⟨rfl, rfl, rfl⟩

/-- R46: without a fresh contributor of either kind the zone goes BLIND. -/
theorem evaluateRecord_blind (e : ZoneEntry) (now : Nat) {air surf : List (PodIx × Int)} (r : ZoneRecord)
    (h : air = [] ∨ surf = []) : evaluateRecord e now air surf r = blindZone air.length surf.length r := by
  rcases h with rfl | rfl
  · rfl
  · cases air <;> rfl

/-- R46: an evaluation counts the fresh contributors. -/
theorem evaluateRecord_counts (e : ZoneEntry) (now : Nat) (air surf : List (PodIx × Int)) (r : ZoneRecord) :
    (evaluateRecord e now air surf r).airCount = air.length ∧
      (evaluateRecord e now air surf r).surfCount = surf.length := by
  unfold evaluateRecord
  split
  · exact (stateStep_keeps ..).2
  · exact ⟨rfl, rfl⟩

/-- R47: with fresh contributors of both kinds the zone takes the wettest, the coldest and the state step at their
margin. -/
theorem evaluateRecord_sighted (e : ZoneEntry) (now : Nat) {air surf : List (PodIx × Int)} (r : ZoneRecord)
    (hair : air.Pairwise (·.1 < ·.1)) (hsurf : surf.Pairwise (·.1 < ·.1)) (hsome : ¬(air = [] ∨ surf = [])) :
    ∃ a f, FirstHighest (fun d => d) air a ∧ FirstHighest (fun t => -t) surf f ∧
      evaluateRecord e now air surf r = stateStep e now (valuesOf a f).margin
        { r with values := some (valuesOf a f), airCount := air.length, surfCount := surf.length } := by
  obtain ⟨hairSome, hsurfSome⟩ := not_or.1 hsome
  obtain ⟨a, as, rfl⟩ := List.exists_cons_of_ne_nil hairSome
  obtain ⟨f, fs, rfl⟩ := List.exists_cons_of_ne_nil hsurfSome
  exact ⟨highest a as, lowest f fs, firstHighest_highest hair, firstHighest_lowest hsurf, rfl⟩

/-- Settles O16, from the contributors' membership and order and the two cases of `evaluateRecord`. -/
theorem evaluationTakesWorstDewAndColdestSurface : Obligations.EvaluationTakesWorstDewAndColdestSurface := by
  unfold Obligations.EvaluationTakesWorstDewAndColdestSurface
  intro s z r
  obtain ⟨hairCount, hsurfCount⟩ : r.airCount = (s.freshAir z).length ∧ r.surfCount = (s.freshSurface z).length :=
    evaluateRecord_counts ..
  refine ⟨fun _ _ => mem_freshAir, fun _ _ => mem_freshSurface, hairCount, hsurfCount, ?_⟩
  split
  · next hblind => exact evaluateRecord_blind _ _ _ hblind
  · next hsome =>
    obtain ⟨a, f, ha, hf, hr⟩ := evaluateRecord_sighted (tget s.active.zones z) s.now (tget s.zones z)
      filterMap_selected_rising filterMap_selected_rising hsome
    refine ⟨valuesOf a f, ?_, hr, rfl, ha.mem, fun x hx => ⟨ha.highest x hx, ha.first x hx⟩, hf.mem,
      fun x hx => ⟨Int.neg_le_neg_iff.1 (hf.highest x hx), fun heq => hf.first x hx (congrArg _ heq)⟩⟩
    exact (congrArg ZoneRecord.values hr).trans (stateStep_keeps ..).1

/-! ### The state step (R48 to R53) -/

/-- R48, R49: a class against thresholds that stand higher is no less severe. -/
theorem severity_classAgainst_le {h : Int} (hh : 0 ≤ h) (alarm warn watch m : Int) :
    RiskClass.severity (classAgainst alarm warn watch m) ≤
      RiskClass.severity (classAgainst (alarm + h) (warn + h) (watch + h) m) := by
  simp only [classAgainst]
  (repeat' split) <;> simp only [RiskClass.severity] <;> omega

/-- Settles O17: the cases of `stateStep` are those stated. -/
theorem stateStepFollowsTheClasses : Obligations.StateStepFollowsTheClasses := by
  unfold Obligations.StateStepFollowsTheClasses
  intro e now m r esc rel
  refine ⟨fun hh => severity_classAgainst_le hh e.alarm e.warn e.watch m, fun hblind => ?_, fun c hc => ?_⟩
  · rw [stateStep, hblind]
    rfl
  · obtain ⟨state, _⟩ := r
    obtain rfl : state = .risk c := hc
    rfl

end Sys2Proof.Machine
end

section
/-! PROOFS. Every operation on zone records keeps the law that a record stands by its active entry (R43, R44). -/

namespace Sys2Proof.Machine

open Sys2Proof.Stated

/-! ### One record -/

/-- R43: the law does not bear on the time of last change. -/
theorem zoneLaw_stampedZone {e : ZoneEntry} {r : ZoneRecord} (h : zoneLaw e r) (s : State) (z : ZoneIx) :
    zoneLaw e (stampedZone s z r) := by
  rw [stampedZone]
  split <;> exact h

/-- R43: a record without sight, BLIND or UNUSED as its entry enables the zone, with neither target nor timer. -/
theorem zoneLaw_of_unsighted {e : ZoneEntry} {r : ZoneRecord} (hstate : r.state = if e.enabled then .blind else .unused)
    (hvalues : r.values = none) (htarget : r.target = none) (htimer : r.timer = .none) : zoneLaw e r := by
  cases henabled : e.enabled <;> simp [zoneLaw, hstate, henabled, hvalues, htarget, htimer, ZoneRecord.isSeen, timerLaw]

/-- R46: a record made BLIND stands by an entry that enables the zone. -/
theorem zoneLaw_blindZone {e : ZoneEntry} (henabled : e.enabled = true) (air surf : Nat) (r : ZoneRecord) :
    zoneLaw e (blindZone air surf r) := zoneLaw_of_unsighted (by rw [henabled]; rfl) rfl rfl rfl

/-- R43: a record at a risk state, whose values and timer stand, of a zone that its entry enables. -/
theorem zoneLaw_of_risk {e : ZoneEntry} {r : ZoneRecord} {v : ZoneValues} {c : RiskClass} (henabled : e.enabled = true)
    (hstate : r.state = .risk c) (hvalues : r.values = some v) (hv : valuesLaw v = true) (htimer : timerLaw r = true) :
    zoneLaw e r := by
  simp [zoneLaw, hstate, henabled, hvalues, ZoneRecord.isSeen, hv, htimer]

/-- R50 to R53: a state step leaves a record that stands: at rest, or with a target on the side that its timer says. -/
theorem zoneLaw_stateStep {e : ZoneEntry} {r : ZoneRecord} {v : ZoneValues} (henabled : e.enabled = true)
    (hvalues : r.values = some v) (hv : valuesLaw v = true) (now : Nat) (m : Int) :
    zoneLaw e (stateStep e now m r) := by
  have hrest : ∀ c, zoneLaw e (atRest c r) := fun c =>
    zoneLaw_of_risk henabled rfl (hvalues : (atRest c r).values = some v) hv rfl
  obtain ⟨state, values, _, _, _, timer, _⟩ := r
  cases state with
  | unused | blind => exact hrest _
  | risk c =>
    simp only [stateStep]
    split
    · next hworse =>
      split
      · exact hrest _
      · refine zoneLaw_of_risk henabled rfl hvalues hv ?_
        cases timer <;> simpa [timerLaw, escalationTimer] using hworse
    · split
      · next hbetter =>
        split
        · exact hrest _
        · refine zoneLaw_of_risk henabled rfl hvalues hv ?_
          cases timer <;> simpa [timerLaw, releaseTimer] using hbetter
      · exact hrest c

/-- R54: a zone taken to its target keeps its values and rests. -/
theorem zoneLaw_atRest {e : ZoneEntry} {r : ZoneRecord} {c : RiskClass} (h : zoneLaw e r)
    (htarget : r.target = some c) : zoneLaw e (atRest c r) := by
  obtain ⟨hunused, hvalues, hv, htimer⟩ := h
  obtain ⟨state, values, _, _, target, timer, _⟩ := r
  obtain rfl : target = some c := htarget
  cases state with
  | unused | blind => cases timer <;> simp [timerLaw] at htimer
  | risk b =>
    obtain ⟨v, rfl⟩ : ∃ v, values = some v := Option.isSome_iff_exists.1 hvalues
    exact zoneLaw_of_risk (by simpa using hunused) rfl rfl (hv v rfl) rfl

/-! ### Evaluations (R46, R47) -/

/-- R7, R12: what lawful pod records contribute lies in the range of temperatures. -/
theorem freshAir_mem_range {s : State} (h : s.podsLawful) {z : ZoneIx} {x : PodIx × Int} (hx : x ∈ s.freshAir z) :
    -1000 ≤ x.2 ∧ x.2 ≤ 5000 := by
  obtain ⟨_, _, _, hdew⟩ := mem_freshAir.1 hx
  exact (podLaw_iff.1 (h x.1)).ranges.dew x.2 hdew

theorem freshSurface_mem_range {s : State} (h : s.podsLawful) {z : ZoneIx} {x : PodIx × Int}
    (hx : x ∈ s.freshSurface z) : -1000 ≤ x.2 ∧ x.2 ≤ 5000 := by
  obtain ⟨_, _, _, hsurf⟩ := mem_freshSurface.1 hx
  exact (podLaw_iff.1 (h x.1)).ranges.surf x.2 hsurf

/-- R43: an evaluation by lawful pod records leaves a record that stands, whatever record it is made from. -/
theorem zoneLaw_evaluateRecord {s : State} (h : s.podsLawful) {z : ZoneIx}
    (henabled : (tget s.active.zones z).enabled = true) (r : ZoneRecord) :
    zoneLaw (tget s.active.zones z)
      (evaluateRecord (tget s.active.zones z) s.now (s.freshAir z) (s.freshSurface z) r) := by
  by_cases hblind : s.freshAir z = [] ∨ s.freshSurface z = []
  · rw [evaluateRecord_blind _ _ _ hblind]
    exact zoneLaw_blindZone henabled _ _ r
  · obtain ⟨a, f, ha, hf, hr⟩ := evaluateRecord_sighted (tget s.active.zones z) s.now r
      filterMap_selected_rising filterMap_selected_rising hblind
    have hvalues : valuesLaw (valuesOf a f) = true :=
      decide_eq_true ⟨rfl, (freshAir_mem_range h ha.mem).1, (freshAir_mem_range h ha.mem).2,
        freshSurface_mem_range h hf.mem⟩
    exact hr ▸ zoneLaw_stateStep henabled rfl hvalues _ _

/-- R63: a swap leaves every zone record standing by its incoming entry, whatever record it had. -/
theorem zoneLaw_swappedZone {s : State} (h : s.podsLawful) (z : ZoneIx) (r : ZoneRecord) :
    zoneLaw (tget s.active.zones z) (swappedZone s z r) := by
  rw [swappedZone_eq, evaluatedZone]
  cases henabled : (tget s.active.zones z).enabled with
  | true => exact zoneLaw_evaluateRecord h henabled _
  | false => exact zoneLaw_of_unsighted (by rw [henabled]; rfl) rfl rfl rfl

/-! ### The zone records and the alert line of a running part -/

/-- R43, R44, R60: out of reset, the zone records stand by their active entries and the alert line by the records. -/
structure ZonesStand (s : State) : Prop where
  running : s.held = false
  records : s.zonesLawful
  alarm : s.alert = anyAlarm s.zones

theorem zonesStand_iff {s : State} (hheld : s.held = false) : ZonesStand s ↔ s.zonesLawful ∧ s.alertLawful := by
  have halert : s.alertLawful ↔ s.alert = anyAlarm s.zones := by rw [State.alertLawful, hheld]; rfl
  exact ⟨fun ⟨_, hrecords, halarm⟩ => ⟨hrecords, halert.2 halarm⟩,
    fun ⟨hrecords, halarm⟩ => ⟨hheld, hrecords, halert.1 halarm⟩⟩

/-- Two states agree on what the laws of the zones and the alert line read. -/
structure SameZones (s t : State) : Prop where
  held : t.held = s.held
  active : t.active = s.active
  zones : t.zones = s.zones
  alert : t.alert = s.alert

theorem SameZones.refl (s : State) : SameZones s s := ⟨rfl, rfl, rfl, rfl⟩

theorem SameZones.trans {s t u : State} (h : SameZones s t) (h' : SameZones t u) : SameZones s u :=
  ⟨h'.held.trans h.held, h'.active.trans h.active, h'.zones.trans h.zones, h'.alert.trans h.alert⟩

theorem ZonesStand.of_same {s t : State} (h : ZonesStand s) (hsame : SameZones s t) : ZonesStand t where
  running := hsame.held.trans h.running
  records z := by rw [hsame.active, hsame.zones]; exact h.records z
  alarm := by rw [hsame.alert, hsame.zones]; exact h.alarm

/-- R56: one zone record written that stands by its entry. -/
theorem ZonesStand.putZone {s : State} (h : ZonesStand s) {z : ZoneIx} {r : ZoneRecord}
    (hr : zoneLaw (tget s.active.zones z) r) : ZonesStand (s.putZone z r) where
  running := (putZone_held s z r).trans h.running
  records y := by
    rw [putZone_active, putZone_zones]
    exact tset_forall (P := fun y r => zoneLaw (tget s.active.zones y) r) (zoneLaw_stampedZone hr s z) h.records y
  alarm := putZone_alert h.alarm z r

theorem redrive_sameZones (s : State) (z : ZoneIx) : SameZones s (s.redrive z) := ⟨rfl, rfl, rfl, rfl⟩

/-- R57: the hand-over of a zone changes outputs alone. -/
theorem ZonesStand.putAndHandOver {s : State} (h : ZonesStand s) {z : ZoneIx} {r : ZoneRecord}
    (hr : zoneLaw (tget s.active.zones z) r) : ZonesStand (s.putAndHandOver z r) := by
  unfold State.putAndHandOver
  split
  · exact (h.putZone hr).of_same (redrive_sameZones _ z)
  · exact h.putZone hr

theorem ZonesStand.evaluatePodZone {s : State} (h : ZonesStand s) (hpods : s.podsLawful) (i : PodIx) :
    ZonesStand (s.evaluatePodZone i) := by
  unfold State.evaluatePodZone State.evaluate
  split
  · split
    · next henabled => exact h.putAndHandOver (zoneLaw_evaluateRecord hpods henabled _)
    · exact h
  · exact h

/-- R54: the expiry of a zone's timer. -/
theorem ZonesStand.zoneExpiry {s : State} (h : ZonesStand s) (z : ZoneIx) : ZonesStand (s.zoneExpiry z) := by
  unfold State.zoneExpiry
  split
  · next c htarget =>
    split
    · exact h.putAndHandOver (zoneLaw_atRest (h.records z) htarget)
    · exact h
  · exact h

/-! ### Samples (R21 to R29) -/

theorem enterCoverage_sameZones (s : State) (i : PodIx) : SameZones s (s.enterCoverage i) := by
  unfold State.enterCoverage
  split <;> exact ⟨rfl, rfl, rfl, rfl⟩

theorem setPod_sameZones (s : State) (i : PodIx) (r : PodRecord) : SameZones s (s.setPod i r) := ⟨rfl, rfl, rfl, rfl⟩

theorem count_sameZones (s : State) (c : Counter) : SameZones s (s.count c) := ⟨rfl, rfl, rfl, rfl⟩

/-- TABLE 2-4: of a taken reply a new sample alone bears on the zones, by the evaluation of its pod's zone. -/
theorem ZonesStand.takeReply {s : State} (h : ZonesStand s) (hpods : s.podsLawful) (i : PodIx) (p : List Byte) :
    ZonesStand (s.takeReply i p) := by
  have htaken := h.of_same (setPod_sameZones s i (takenRecord (s.podEntry i) s.now (tget s.pods i) p))
  have hpodsTaken : (s.setPod i (takenRecord (s.podEntry i) s.now (tget s.pods i) p)).podsLawful :=
    podsLawful_of_tset rfl rfl ((podLaw_iff.1 (hpods i)).taken s.now p) hpods
  simp only [State.takeReply]
  split
  · exact htaken.of_same (count_sameZones _ _)
  · exact htaken.of_same (count_sameZones _ _)
  · exact htaken.of_same (enterCoverage_sameZones _ i)
  · exact (htaken.of_same (enterCoverage_sameZones _ i)).evaluatePodZone
      (SamePods.podsLawful ⟨enterCoverage_pods _ i, enterCoverage_active _ i⟩ hpodsTaken) i

/-- R29: a record that becomes STALE bears on the zones by the evaluation of its pod's zone. -/
theorem ZonesStand.staleExpiry {s : State} (h : ZonesStand s) (hpods : s.podsLawful) (i : PodIx) :
    ZonesStand (s.staleExpiry i) := by
  unfold State.staleExpiry
  split
  · next hdue =>
    exact (h.of_same (setPod_sameZones s i _)).evaluatePodZone
      (podsLawful_of_tset rfl rfl ((podLaw_iff.1 (hpods i)).stale hdue.1) hpods) i
  · exact h

end Sys2Proof.Machine
end

section
/-! PROOFS. Every effect keeps the zone records as R43 and R44 give them and the alert line as R60 does, and so does
every step. -/

namespace Sys2Proof.Machine

open Sys2Proof.Stated

/-! ### Outputs, sweep and store -/

theorem onTimeExpiry_sameZones (s : State) (o : OutIx) : SameZones s (s.onTimeExpiry o) := by
  unfold State.onTimeExpiry
  split <;> exact ⟨rfl, rfl, rfl, rfl⟩

theorem periodExpiry_sameZones (s : State) (o : OutIx) : SameZones s (s.periodExpiry o) := by
  unfold State.periodExpiry
  split <;> exact ⟨rfl, rfl, rfl, rfl⟩

theorem delayExpiry_sameZones (s : State) : SameZones s s.delayExpiry := by
  unfold State.delayExpiry
  split <;> exact ⟨rfl, rfl, rfl, rfl⟩

theorem paceExpiry_sameZones (s : State) : SameZones s s.paceExpiry := by
  unfold State.paceExpiry
  split <;> exact ⟨rfl, rfl, rfl, rfl⟩

theorem storeExpiry_sameZones (s : State) (cellsMatch : Bool) : SameZones s (s.storeExpiry cellsMatch) := by
  unfold State.storeExpiry
  split
  · split <;> exact ⟨rfl, rfl, rfl, rfl⟩
  · exact SameZones.refl s

/-! ### Start-up, swap and field restart -/

theorem setSweep_sameZones (s : State) (w : SweepRecord) : SameZones s (s.setSweep w) := ⟨rfl, rfl, rfl, rfl⟩

/-- R66, R186: after start-up every zone is BLIND or UNUSED by its entry, and the alert line is released. -/
theorem setUp_zonesStand (s : State) (trate : BitVec 2) (addr : BitVec 6) : ZonesStand (s.setUp trate addr) := by
  rw [State.setUp, automaticStart_eq rfl]
  refine ZonesStand.of_same ⟨rfl, fun z => ?_, ?_⟩ (setSweep_sameZones _ _)
  · rw [tget_tmap]
    exact zoneLaw_of_unsighted rfl rfl rfl rfl
  · refine (anyAlarm_eq_false fun z => ?_).symm
    rw [tget_tmap, resetZone]
    cases (tget s.startBank.zones z).enabled <;> simp

/-- R63, R167: a swap leaves the zone records standing by their incoming entries. -/
theorem ZonesStand.flip {s : State} (h : ZonesStand s) (hpods : s.podsLawful) : ZonesStand s.flip := by
  have hswapped := flip_podsLawful hpods
  obtain ⟨pods, zones, changeSet, alert, outputs, hflipped, hflip⟩ := flip_eq s
  rw [hflip] at hswapped ⊢
  refine ⟨h.running, fun z => ?_, hflipped.alarm h.alarm⟩
  rw [hflipped.eachZone z]
  exact zoneLaw_stampedZone
    (zoneLaw_swappedZone (s := { s with selector := BankNo.other s.selector, pods := pods }) hswapped z _) s z

/-- R65: a FIELD-RESTART leaves every enabled zone BLIND and every other as it was. -/
theorem ZonesStand.restartField {s : State} (h : ZonesStand s) : ZonesStand s.restartField := by
  obtain ⟨zones, changeSet, alert, outputs, hrestarted, hrestart⟩ := restartField_eq s
  rw [hrestart]
  refine ⟨h.running, fun z => ?_, hrestarted.alarm h.alarm⟩
  rw [hrestarted.eachZone z]
  refine zoneLaw_stampedZone ?_ s z
  split
  · next henabled => exact zoneLaw_blindZone henabled _ _ _
  · exact h.records z

/-! ### Management requests -/

theorem setShadow_sameZones (s : State) (b : Bank) : SameZones s (s.setShadow b) :=
  ⟨setShadow_held s b, setShadow_active s b, setShadow_zones s b, setShadow_alert s b⟩

/-- R171: of the requests the swap and the FIELD-RESTART alone bear on the zones. -/
theorem Requested.zonesStand {s t : State} (hrequest : Requested s t) (h : ZonesStand s) (hpods : s.podsLawful) :
    ZonesStand t := by
  cases hrequest with
  | unchanged | statusRead | sweepStopped | inhibited | released | storeBegun | countersCleared =>
    exact h.of_same ⟨rfl, rfl, rfl, rfl⟩
  | podWritten | zoneWritten | outputWritten | listWritten | fieldWritten | copied =>
    exact h.of_same (setShadow_sameZones s _)
  | swapped => exact h.flip hpods
  | sweepStarted hstart =>
    obtain ⟨w, rfl⟩ := sweepStart_eq_setSweep hstart
    exact h.of_same (setSweep_sameZones s w)
  | sweepResumed hresume =>
    obtain ⟨w, rfl⟩ := sweepResume_eq_setSweep hresume
    exact h.of_same (setSweep_sameZones s w)
  | fieldRestarted => exact h.restartField

/-! ### The trunk port -/

theorem offerTrunk_sameZones (s : State) (c : Byte) : SameZones s (s.offerTrunk c) := by
  unfold State.offerTrunk
  split
  · exact count_sameZones s _
  · split <;> exact ⟨rfl, rfl, rfl, rfl⟩

theorem abandonTrunk_sameZones (s : State) : SameZones s s.abandonTrunk := ⟨rfl, rfl, rfl, rfl⟩

theorem touchTrunk_sameZones (s : State) : SameZones s s.touchTrunk := ⟨rfl, rfl, rfl, rfl⟩

theorem trunkMark_sameZones (s : State) (c : Byte) (stop : Bool) : SameZones s (s.trunkMark c stop) := by
  unfold State.trunkMark
  split
  · split
    · exact (touchTrunk_sameZones s).trans (offerTrunk_sameZones _ c)
    · exact touchTrunk_sameZones s
  · split
    · exact ((touchTrunk_sameZones s).trans (abandonTrunk_sameZones _)).trans (offerTrunk_sameZones _ c)
    · exact (touchTrunk_sameZones s).trans (abandonTrunk_sameZones _)
  · exact SameZones.refl s

/-- R107: a request is taken, and its slot then holds the response. -/
theorem ZonesStand.answerRequest {s : State} (h : ZonesStand s) (hpods : s.podsLawful) (k : SlotNo) (kind : Byte)
    (p : List Byte) : ZonesStand (s.answerRequest k kind p) :=
  ((takeRequest_requested s kind p).zonesStand h hpods).of_same ⟨rfl, rfl, rfl, rfl⟩

/-- R141: of the complete telegrams a good one to the own address alone bears on the zones. -/
theorem ZonesStand.completeTrunk {s : State} (h : ZonesStand s) (hpods : s.podsLawful) (k : SlotNo) :
    ZonesStand (s.completeTrunk k) := by
  simp only [State.completeTrunk]
  split
  · split
    · exact (h.of_same (count_sameZones s _)).answerRequest hpods k _ _
    · exact h.of_same ⟨rfl, rfl, rfl, rfl⟩
  · exact h.of_same ⟨rfl, rfl, rfl, rfl⟩

theorem fillSlot_sameZones (s : State) (k : SlotNo) (t : List Byte) : SameZones s (s.fillSlot k t) :=
  ⟨rfl, rfl, rfl, rfl⟩

theorem ZonesStand.storeTrunkChar {s : State} (h : ZonesStand s) (hpods : s.podsLawful) (k : SlotNo) (c : Byte) :
    ZonesStand (s.storeTrunkChar k c) := by
  have hstored := h.of_same (fillSlot_sameZones s k (s.slot k ++ [c]))
  simp only [State.storeTrunkChar]
  split
  · exact h.of_same ⟨rfl, rfl, rfl, rfl⟩
  · exact hstored.of_same (abandonTrunk_sameZones _)
  · exact hstored.completeTrunk hpods k

theorem ZonesStand.trunkData {s : State} (h : ZonesStand s) (hpods : s.podsLawful) (c : Byte) (stop : Bool) :
    ZonesStand (s.trunkData c stop) := by
  have htouched := h.of_same (touchTrunk_sameZones s)
  unfold State.trunkData
  split
  · exact htouched
  · split
    · exact htouched.storeTrunkChar hpods _ c
    · exact htouched.of_same (abandonTrunk_sameZones _)
  · exact h

theorem trunkGap_sameZones (s : State) : SameZones s s.trunkGap := by
  unfold State.trunkGap
  split
  · split <;> exact ⟨rfl, rfl, rfl, rfl⟩
  · exact SameZones.refl s

theorem startTransmission_sameZones (s : State) : SameZones s s.startTransmission := by
  unfold State.startTransmission
  split
  · split <;> exact ⟨rfl, rfl, rfl, rfl⟩
  · exact SameZones.refl s

theorem endTransmission_sameZones (s : State) : SameZones s s.endTransmission := by
  unfold State.endTransmission
  split
  · split <;> exact ⟨rfl, rfl, rfl, rfl⟩
  · exact SameZones.refl s

theorem ZonesStand.requestArrives {s : State} (h : ZonesStand s) (hpods : s.podsLawful) (kind : Byte) (p : List Byte) :
    ZonesStand (s.requestArrives kind p) := by
  have hmark := h.of_same (trunkMark_sameZones s (downChar s.ownAddr) true)
  have hpodsMark := (trunkMark_samePods s (downChar s.ownAddr) true).podsLawful hpods
  simp only [State.requestArrives]
  split
  · split
    · exact hmark.of_same ⟨rfl, rfl, rfl, rfl⟩
    · exact (hmark.of_same (fillSlot_sameZones _ _ _)).completeTrunk hpodsMark _
  · exact hmark

/-! ### The field port -/

theorem startSweepTxn_sameZones (s : State) : SameZones s s.startSweepTxn := by
  unfold State.startSweepTxn
  split
  · split <;> exact ⟨rfl, rfl, rfl, rfl⟩
  · exact SameZones.refl s

theorem startTxn_sameZones (s : State) : SameZones s s.startTxn := by
  unfold State.startTxn
  split
  · split
    · exact ⟨rfl, rfl, rfl, rfl⟩
    · exact startSweepTxn_sameZones s
  · exact SameZones.refl s

theorem sendingEnd_sameZones (s : State) : SameZones s s.sendingEnd := by
  unfold State.sendingEnd
  split
  · split
    · split
      · split <;> exact ⟨rfl, rfl, rfl, rfl⟩
      · exact ⟨rfl, rfl, rfl, rfl⟩
    · exact SameZones.refl s
  · exact SameZones.refl s

theorem enterGuard_sameZones (s : State) (t : Txn) (o : TxnOutcome) : SameZones s (s.enterGuard t o) :=
  ⟨rfl, rfl, rfl, rfl⟩

theorem sendHeld_sameZones (s : State) (k : SlotNo) (i : PodIx) (stored : List Byte) :
    SameZones s (s.sendHeld k i stored) :=
  ⟨sendHeld_held s k i stored, sendHeld_active s k i stored, sendHeld_zones s k i stored, sendHeld_alert s k i stored⟩

/-- R127, R128: a miss does not bear on the zones. -/
theorem missTxn_sameZones (s : State) (t : Txn) (k : SlotNo) : SameZones s (s.missTxn t k) := by
  have hcounted : SameZones s (match podOf t.target.toNat with
      | some i => (s.count .fieldMisses).countMiss i
      | none => s.count .fieldMisses) := by
    split <;> exact ⟨rfl, rfl, rfl, rfl⟩
  simp only [State.missTxn]
  split
  · exact (hcounted.trans (sendHeld_sameZones _ _ _ _)).trans (enterGuard_sameZones _ _ _)
  · exact hcounted.trans (enterGuard_sameZones _ _ _)

theorem badReply_sameZones (s : State) (t : Txn) (k : SlotNo) : SameZones s (s.badReply t k) :=
  (count_sameZones s _).trans (missTxn_sameZones _ t k)

theorem ZonesStand.forwardSample {s : State} (h : ZonesStand s) (hpods : s.podsLawful) (k : SlotNo) (i : PodIx)
    (reply : List Byte) : ZonesStand (s.forwardSample k i reply) := by
  unfold State.forwardSample
  split
  · split
    · exact (h.of_same (count_sameZones s _)).takeReply hpods i _
    · split
      · exact h.takeReply hpods i _
      · exact (h.takeReply hpods i _).of_same ⟨rfl, rfl, rfl, rfl⟩
  · exact h.takeReply hpods i _

/-- R123, TABLE 7-3: a good reply bears on the zones as the sample engine takes it. -/
theorem ZonesStand.goodReply {s : State} (h : ZonesStand s) (hpods : s.podsLawful) (t : Txn) (k : SlotNo) :
    ZonesStand (s.goodReply t k) := by
  have hcounted := h.of_same (count_sameZones s .fieldReplies)
  simp only [State.goodReply]
  refine ZonesStand.of_same ?_ (enterGuard_sameZones _ _ _)
  split
  · exact (hcounted.forwardSample hpods k _ _).of_same ⟨rfl, rfl, rfl, rfl⟩
  · exact hcounted.of_same ⟨rfl, rfl, rfl, rfl⟩
  · exact hcounted.takeReply hpods _ _
  · exact hcounted

theorem ZonesStand.storeReplyChar {s : State} (h : ZonesStand s) (hpods : s.podsLawful) (t : Txn) (k : SlotNo)
    (c : Byte) : ZonesStand (s.storeReplyChar t k c) := by
  have hstored := h.of_same (fillSlot_sameZones s k (s.slot k ++ [c]))
  simp only [State.storeReplyChar]
  split
  · exact h.of_same ⟨rfl, rfl, rfl, rfl⟩
  · exact hstored.of_same (badReply_sameZones _ t k)
  · split
    · exact hstored.goodReply hpods t k
    · exact hstored.of_same (badReply_sameZones _ t k)

theorem touchField_sameZones (s : State) : SameZones s s.touchField := ⟨rfl, rfl, rfl, rfl⟩

/-- TABLE 7-4: a mark character at most ends a reply as a miss. -/
theorem fieldMark_sameZones (s : State) (c : Byte) (stop : Bool) : SameZones s (s.fieldMark c stop) := by
  have hbad := fun t k => (touchField_sameZones s).trans (badReply_sameZones s.touchField t k)
  unfold State.fieldMark
  split
  · split <;> exact ⟨rfl, rfl, rfl, rfl⟩
  · exact SameZones.refl s
  · split <;> exact ⟨rfl, rfl, rfl, rfl⟩
  · split
    · exact (hbad _ _).trans (count_sameZones _ _)
    · exact hbad _ _
  · split <;> exact ⟨rfl, rfl, rfl, rfl⟩

theorem ZonesStand.fieldData {s : State} (h : ZonesStand s) (hpods : s.podsLawful) (c : Byte) (stop : Bool) :
    ZonesStand (s.fieldData c stop) := by
  have htouched := h.of_same (touchField_sameZones s)
  unfold State.fieldData
  split
  · exact htouched
  · exact h
  · exact htouched
  · split
    · exact htouched.storeReplyChar hpods _ _ c
    · exact htouched.of_same (badReply_sameZones _ _ _)
  · exact h.of_same ⟨rfl, rfl, rfl, rfl⟩

theorem fieldGap_sameZones (s : State) : SameZones s s.fieldGap := by
  unfold State.fieldGap
  split
  · split
    · exact badReply_sameZones s _ _
    · exact SameZones.refl s
  · exact SameZones.refl s

theorem windowExpiry_sameZones (s : State) : SameZones s s.windowExpiry := by
  unfold State.windowExpiry
  split
  · split
    · exact missTxn_sameZones s _ _
    · exact SameZones.refl s
  · exact SameZones.refl s

theorem guardExpiry_sameZones (s : State) : SameZones s s.guardExpiry := by
  unfold State.guardExpiry
  split
  · split <;> exact ⟨rfl, rfl, rfl, rfl⟩
  · exact SameZones.refl s

/-! ### Every step -/

/-- R43, R44, R60, and the law of the pod records that an evaluation reads them by. -/
abbrev State.sightLawful (s : State) : Prop := s.podsLawful ∧ s.zonesLawful ∧ s.alertLawful

/-- Out of reset, an effect that keeps the pod records lawful and the zones standing by them keeps the laws. -/
theorem sightLawful_of_zonesStand {s t : State} (hpods : s.held = false → s.podsLawful → t.podsLawful)
    (hzones : ZonesStand s → s.podsLawful → ZonesStand t) (hheld : s.held = false) (h : s.sightLawful) :
    t.sightLawful := by
  obtain ⟨hpodsOld, hzonesOld⟩ := h
  have hstands := hzones ((zonesStand_iff hheld).2 hzonesOld) hpodsOld
  exact ⟨hpods hheld hpodsOld, (zonesStand_iff hstands.running).1 hstands⟩

/-- The same for an effect that does not bear on the zones. -/
theorem sightLawful_of_sameZones {s t : State} (hpods : s.held = false → s.podsLawful → t.podsLawful)
    (hsame : SameZones s t) : s.held = false → s.sightLawful → t.sightLawful :=
  sightLawful_of_zonesStand hpods fun hstands _ => hstands.of_same hsame

theorem sightLawful_keptByEffects : KeptByEffects State.sightLawful :=
  have hp := podsLawful_keptByEffects
  { queue := fun _ _ h => h
    elapse := fun _ _ h => h
    enterReset := fun _ ⟨hpods, hzones, _⟩ => ⟨hpods, hzones, rfl⟩
    setUp := fun s trate addr ⟨hpods, _⟩ =>
      have hstands := setUp_zonesStand s.enterReset trate addr
      ⟨hp.setUp s trate addr hpods, (zonesStand_iff hstands.running).1 hstands⟩
    trunkMark := fun s c stop => sightLawful_of_sameZones (hp.trunkMark s c stop) (trunkMark_sameZones s c stop)
    trunkData := fun s c stop =>
      sightLawful_of_zonesStand (hp.trunkData s c stop) fun h hpods => h.trunkData hpods c stop
    trunkGap := fun s => sightLawful_of_sameZones (hp.trunkGap s) (trunkGap_sameZones s)
    startTransmission := fun s => sightLawful_of_sameZones (hp.startTransmission s) (startTransmission_sameZones s)
    endTransmission := fun s => sightLawful_of_sameZones (hp.endTransmission s) (endTransmission_sameZones s)
    startTxn := fun s => sightLawful_of_sameZones (hp.startTxn s) (startTxn_sameZones s)
    sendingEnd := fun s => sightLawful_of_sameZones (hp.sendingEnd s) (sendingEnd_sameZones s)
    fieldMark := fun s c stop => sightLawful_of_sameZones (hp.fieldMark s c stop) (fieldMark_sameZones s c stop)
    fieldData := fun s c stop =>
      sightLawful_of_zonesStand (hp.fieldData s c stop) fun h hpods => h.fieldData hpods c stop
    fieldGap := fun s => sightLawful_of_sameZones (hp.fieldGap s) (fieldGap_sameZones s)
    windowExpiry := fun s => sightLawful_of_sameZones (hp.windowExpiry s) (windowExpiry_sameZones s)
    guardExpiry := fun s => sightLawful_of_sameZones (hp.guardExpiry s) (guardExpiry_sameZones s)
    staleExpiry := fun s i => sightLawful_of_zonesStand (hp.staleExpiry s i) fun h hpods => h.staleExpiry hpods i
    zoneExpiry := fun s z => sightLawful_of_zonesStand (hp.zoneExpiry s z) fun h _ => h.zoneExpiry z
    onTimeExpiry := fun s o => sightLawful_of_sameZones (hp.onTimeExpiry s o) (onTimeExpiry_sameZones s o)
    periodExpiry := fun s o => sightLawful_of_sameZones (hp.periodExpiry s o) (periodExpiry_sameZones s o)
    delayExpiry := fun s => sightLawful_of_sameZones (hp.delayExpiry s) (delayExpiry_sameZones s)
    paceExpiry := fun s => sightLawful_of_sameZones (hp.paceExpiry s) (paceExpiry_sameZones s)
    storeExpiry := fun s cellsMatch =>
      sightLawful_of_sameZones (hp.storeExpiry s cellsMatch) (storeExpiry_sameZones s cellsMatch)
    requestArrives := fun s kind p =>
      sightLawful_of_zonesStand (hp.requestArrives s kind p) fun h hpods => h.requestArrives hpods kind p }

/-- Settles O19: every effect keeps the laws of the zones and the alert line with that of the pods, so every step
does. -/
theorem everyStepKeepsZonesLawful : Obligations.EveryStepKeepsZonesLawful := by
  unfold Obligations.EveryStepKeepsZonesLawful
  intro s t hpods hzones halert hstep
  have ⟨_, hkept⟩ := sightLawful_keptByEffects.step ⟨hpods, hzones, halert⟩ hstep
  exact hkept

end Sys2Proof.Machine
end

section
/-! PROOFS. A zone timer's expiry (R54), READ-STATUS (R173) and READ-ZONE (R61). -/

namespace Sys2Proof.Machine

open Sys2Proof.Stated

/-! ### The expiry of a zone's timer (R54, R56) -/

/-- R54, R56: a write that changes a zone's state has every effect of the change. -/
theorem zoneWritten_of_changed {s : State} {z : ZoneIx} {r : ZoneRecord} (h : r.state ≠ (tget s.zones z).state) :
    zoneWritten s z r =
      { s with
          zones := tset s.zones z { r with lastChange := s.now }, changeSet := s.changeSet ||| (1#16 <<< z.val),
          alert := (List.finRange 16).any fun y =>
            (tget (tset s.zones z { r with lastChange := s.now }) y).state = .risk .alarm,
          outputs := tmap s.outputs fun o q =>
            if (tget s.active.outputs o).zoneSet.getLsbD z.val then
              redriven (tget s.active.outputs o) (tset s.zones z { r with lastChange := s.now }) q
            else q } := by
  simp only [zoneWritten, ne_eq, h, not_false_eq_true, true_or, true_and, if_false]

/-- R54: without a target there is nothing to take the zone to (log entry 19). -/
theorem zoneExpiry_of_no_target {s : State} {z : ZoneIx} (h : (tget s.zones z).target = none) : s.zoneExpiry z = s := by
  rw [State.zoneExpiry, h]

theorem zoneExpiry_of_target {s : State} {z : ZoneIx} {c : RiskClass} (h : (tget s.zones z).target = some c) :
    s.zoneExpiry z =
      if isDue s.now (tget s.zones z).timer.expiry then zoneWritten s z (atRest c (tget s.zones z)) else s := by
  rw [State.zoneExpiry, h]
  simp only [putAndHandOver_eq_zoneWritten]

/-- Settles O18: a due timer with a target writes the zone at rest there, which is a change of its state. -/
theorem zoneTimerTakesTheTarget : Obligations.ZoneTimerTakesTheTarget := by
  unfold Obligations.ZoneTimerTakesTheTarget
  intro dt z s hheld r now hchanges
  change event dt (fun s => s.zoneExpiry z) s = _
  rw [event_running hheld]
  cases htarget : r.target with
  | none =>
    rw [zoneExpiry_of_no_target (s := s.elapse dt) htarget]
    rfl
  | some c =>
    have hstate : (atRest c r).state ≠ (tget (s.elapse dt).zones z).state := (hchanges c htarget).symm
    rw [zoneExpiry_of_target (s := s.elapse dt) htarget, elapse_zones, zoneWritten_of_changed hstate]
    rfl

/-! ### READ-ZONE (R61, R174) -/

theorem sec_one : sec 1 = 1000 * ticksPerMs := by rw [sec, ms, Nat.one_mul]

theorem wholeSeconds_eq (elapsed : Nat) :
    wholeUnits (sec 1) elapsed = min (elapsed / (1000 * ticksPerMs)) 65535 := by rw [wholeUnits, sec_one]

theorem secondsLeft_eq (now : Nat) :
    secondsLeft now = fun e => (e - now + (1000 * ticksPerMs - 1)) / (1000 * ticksPerMs) := by
  funext e
  rw [secondsLeft, sec_one]

/-- R61: the time that a zone timer has still to run, in seconds of any number of ticks. -/
theorem expiry_elim_eq (second now : Nat) (timer : ZoneTimer) :
    timer.expiry.elim 0 (fun e => (e - now + (second - 1)) / second) =
      match timer with
      | .none => 0
      | .escalation e => (e - now + (second - 1)) / second
      | .release e => (e - now + (second - 1)) / second := by
  cases timer <;> rfl

theorem zoneReport_eq (s : State) (z : ZoneIx) : s.zoneReport z = Stated.zoneReport s.now z (tget s.zones z) := by
  rw [State.zoneReport, Stated.zoneReport, wholeSeconds_eq, secondsLeft_eq, expiry_elim_eq]
  rfl

theorem takeRequest_readZone (s : State) (c : Byte) : s.takeRequest 0x52 [c] = s.askZone [c] := rfl

theorem askZone_eq (s : State) (c : Byte) :
    s.askZone [c] =
      match zoneOf c.toNat with
      | some z => (s, 0 :: Stated.zoneReport s.now z (tget s.zones z))
      | none => (s, [4]) := by
  rw [State.askZone, show charAt [c] 0 = c from rfl]
  cases zoneOf c.toNat with
  | none => rfl
  | some z => simp only [zoneReport_eq, State.report, Status.char]

/-- Settles O35. -/
theorem readZoneReportsTheRecord : Obligations.ReadZoneReportsTheRecord := by
  unfold Obligations.ReadZoneReportsTheRecord
  intro dt c s k h
  change event dt (fun s => s.requestArrives 0x52 [c]) s = _
  rw [event_request h dt 0x52 (by simp)]
  have htaken := (takeRequest_readZone (s.requestTaken dt k 0x52 [c]) c).trans (askZone_eq _ c)
  cases hzone : zoneOf c.toNat with
  | none =>
    rw [hzone] at htaken
    rw [answerRequest_unchanged h htaken]
  | some z =>
    rw [hzone] at htaken
    rw [answerRequest_unchanged h htaken]
    rfl

/-! ### READ-STATUS (R59, R113, R173) -/

/-- R113: in the state in which a request is taken its slot is occupied, and every other is as the request found it. -/
theorem mem_occupied_requestTaken {s : State} {k : SlotNo} (h : ready s k) (dt : Nat) (kind : Byte) (p : List Byte)
    (j : SlotNo) : j ∈ (s.requestTaken dt k kind p).occupied ↔ j = k ∨ j ∈ s.occupied := by
  obtain ⟨_, hport, _⟩ := h
  have htaken : (s.requestTaken dt k kind p).occupied = k :: (s.downQ ++ s.fieldPort.txnSlot.toList ++ s.upQ) := by
    simp [State.occupied, State.requestHeld, TrunkPort.rxSlot, TrunkPort.txSlot, State.elapse]
  have hfound : s.occupied = s.downQ ++ s.fieldPort.txnSlot.toList ++ s.upQ := by
    simp [State.occupied, hport, TrunkPort.rxSlot, TrunkPort.txSlot]
  rw [htaken, hfound, List.mem_cons]

/-- R113: a request's own slot is not FREE while it is taken. -/
theorem freeSlots_requestTaken_length {s : State} {k : SlotNo} (h : ready s k) (dt : Nat) (kind : Byte)
    (p : List Byte) : (s.requestTaken dt k kind p).freeSlots.length = s.freeSlots.length - 1 := by
  have ⟨_, _, hgrant⟩ := h
  have hfree : k ∈ s.freeSlots := mem_freeSlots.2 (grant_free hgrant)
  have hnodup : s.freeSlots.Nodup := (List.nodup_finRange 16).filter _
  have htaken : (s.requestTaken dt k kind p).freeSlots = s.freeSlots.filter (· != k) := by
    rw [State.freeSlots, State.freeSlots, List.filter_filter]
    exact List.filter_congr fun j _ => Bool.eq_iff_iff.2 (by simp [mem_occupied_requestTaken h])
  rw [htaken, ← List.length_erase_of_mem hfree, List.Nodup.erase_eq_filter hnodup]

theorem takeRequest_readStatus (s : State) : s.takeRequest 0x51 [] = s.askStatus := rfl

/-- R173: the body formed while the request is taken is the one stated of the state that the request found. -/
theorem statusBody_requestTaken {s : State} {k : SlotNo} (h : ready s k) (dt : Nat) (kind : Byte) (p : List Byte) :
    (s.requestTaken dt k kind p).statusBody = statusReport s := by
  rw [State.statusBody, freeSlots_requestTaken_length h]
  rfl

/-- Settles O34: READ-STATUS changes the change set alone, after its body is formed. -/
theorem readStatusReportsAndEmptiesTheChangeSet : Obligations.ReadStatusReportsAndEmptiesTheChangeSet := by
  unfold Obligations.ReadStatusReportsAndEmptiesTheChangeSet
  intro dt s k h
  have htaken : (s.requestTaken dt k 0x51 []).takeRequest 0x51 [] =
      ({ s.requestTaken dt k 0x51 [] with changeSet := 0 }, 0 :: statusReport s) := by
    rw [takeRequest_readStatus, State.askStatus, statusBody_requestTaken h]
    rfl
  exact (event_request h dt 0x51 (by simp)).trans (congrArg _ (answerRequest_blocks h htaken))

end Sys2Proof.Machine
end

section
/-! PROOFS. The demand of an output, its re-drive, and the expiries of its two timers (R69 to R78). -/

namespace Sys2Proof.Machine

open Sys2Proof.Stated

/-! ### The demand (R72) -/

/-- R43, R72: the margins that an output reads are those of its mapped zones that are at a risk state. -/
theorem mem_seenMargins (e : OutputEntry) (zones : Vector ZoneRecord 16) (m : Int) :
    m ∈ seenMargins e zones ↔ ∃ z : ZoneIx, e.zoneSet.getLsbD z.val = true ∧ (tget zones z).state ≠ .unused ∧
      (tget zones z).state ≠ .blind ∧ (tget zones z).values.map ZoneValues.margin = some m := by
  have hseen : ∀ r : ZoneRecord,
      (if r.isSeen then r.values.map (·.margin) else none) = some m ↔
        r.state ≠ .unused ∧ r.state ≠ .blind ∧ r.values.map ZoneValues.margin = some m := fun r => by
    rw [ZoneRecord.isSeen]
    cases r.state <;> simp
  simp only [seenMargins, List.mem_filterMap, mem_mappedZones, hseen]
  exact ⟨fun ⟨_, ⟨z, hz, hr⟩, hm⟩ => ⟨z, hz, hr ▸ hm⟩, fun ⟨z, hz, hm⟩ => ⟨_, ⟨z, hz, rfl⟩, hm⟩⟩

/-- R72: the demand is formed at the lowest margin. -/
theorem demandOf_lowest {e : OutputEntry} {zones : Vector ZoneRecord 16} {m : Int} (hm : m ∈ seenMargins e zones)
    (hlowest : ∀ n ∈ seenMargins e zones, m ≤ n) (old : Nat) : demandOf e zones old = demandAt e m := by
  have hmin : (seenMargins e zones).min? = some m := List.min?_eq_some_iff.2 ⟨hm, hlowest⟩
  rw [demandOf]
  cases hmargins : seenMargins e zones with
  | nil => simp [hmargins] at hm
  | cons n ns =>
    rw [hmargins, List.min?_cons'] at hmin
    rw [← Option.some_inj.1 hmin]

/-- R72: strictly between the full and the onset margin the demand is the floored quotient, and below 100. -/
theorem demandAt_between {e : OutputEntry} {m : Int} (hfull : e.full < m) (honset : m < e.onset) :
    (demandAt e m : Int) = (e.onset - m) * 100 / (e.onset - e.full) ∧ demandAt e m ≤ 99 := by
  have hnonneg : 0 ≤ (e.onset - m) * 100 / (e.onset - e.full) := Int.ediv_nonneg (by omega) (by omega)
  have hlt : (e.onset - m) * 100 / (e.onset - e.full) < 100 := Int.ediv_lt_of_lt_mul (by omega) (by omega)
  rw [demandAt, if_neg (by omega), if_neg (by omega)]
  omega

theorem demandAt_le (e : OutputEntry) (m : Int) : demandAt e m ≤ 100 := by
  by_cases honset : e.onset ≤ m
  · simp [demandAt, honset]
  · by_cases hfull : m ≤ e.full
    · simp [demandAt, honset, hfull]
    · exact le_trans (demandAt_between (not_le.1 hfull) (not_le.1 honset)).2 (by decide)

theorem demandOf_le {e : OutputEntry} {zones : Vector ZoneRecord 16} {old : Nat} (h : old ≤ 100) :
    demandOf e zones old ≤ 100 := by
  rw [demandOf]
  split
  · exact h
  · exact demandAt_le e _

/-- R72: forming the demand again from the same zones changes nothing. -/
theorem demandOf_demandOf (e : OutputEntry) (zones : Vector ZoneRecord 16) (old : Nat) :
    demandOf e zones (demandOf e zones old) = demandOf e zones old := by
  simp only [demandOf]
  split <;> rfl

/-! ### A re-drive (R69) -/

/-- R73, R75, R78: a re-drive keeps the period cycle; it forms a demand only in RUNNING, of a PROPORTIONAL output. -/
theorem redriveRecord_keeps (e : OutputEntry) (zones : Vector ZoneRecord 16) (r : OutputRecord) :
    (redriveRecord e zones r).latched = r.latched ∧ (redriveRecord e zones r).periodTimer = r.periodTimer ∧
      (redriveRecord e zones r).onTimer = r.onTimer ∧
      ((redriveRecord e zones r).state ≠ .running ∨ e.mode = .level → (redriveRecord e zones r).demand = r.demand) := by
  unfold redriveRecord
  split
  · simp
  · split
    · cases e.mode <;> simp
    · split <;> simp [enterFailsafe]

/-- Settles O20. -/
theorem redriveFormsTheDemandAndKeepsTheCycle : Obligations.RedriveFormsTheDemandAndKeepsTheCycle := by
  unfold Obligations.RedriveFormsTheDemandAndKeepsTheCycle
  refine ⟨fun e zones old m hspan hm hlowest => ?_, mem_seenMargins,
    fun e zones q => ⟨redriveRecord_eq_redriven e zones q, redriveRecord_keeps e zones q⟩⟩
  rw [demandOf_lowest hm hlowest]
  refine ⟨fun honset => if_pos honset, fun hfull => ?_, demandAt_between⟩
  rw [demandAt, if_neg (by omega), if_pos hfull]

/-! ### The timers (R73, R74, R77) -/

/-- R74: an on-time timer's expiry, as the statement spells its record. -/
theorem onTimeEnds_eq (e : OutputEntry) (r : OutputRecord) :
    onTimeEnds e r =
      { r with
          onTimer := none,
          pin := if r.state = .running ∨ (r.state = .failsafe ∧ e.failAction = .hold) then false else r.pin } := by
  simp [onTimeEnds, drivesCycle]

/-- Settles O21. -/
theorem onTimeTimerEndsTheOnPhase : Obligations.OnTimeTimerEndsTheOnPhase := by
  unfold Obligations.OnTimeTimerEndsTheOnPhase
  intro dt o s hheld e r
  change event dt (fun s => s.onTimeExpiry o) s = _
  rw [event_running hheld, State.onTimeExpiry, onTimeEnds_eq]
  rfl

/-- Section 4.2, R73: the cycle level at a period start is on where the duty is not 0. -/
theorem periodStart_cycleLevel (e : OutputEntry) (now duty : Nat) (r : OutputRecord) :
    (periodStart e now duty r).cycleLevel = decide ((1 ≤ duty ∧ duty ≤ 99) ∨ duty = 100) := by
  by_cases hpart : 0 < duty ∧ duty < 100
  · have hon : 1 ≤ duty ∧ duty ≤ 99 := by omega
    simp [periodStart, OutputRecord.cycleLevel, hpart, hon]
  · have hoff : ¬(1 ≤ duty ∧ duty ≤ 99) := by omega
    simp [periodStart, OutputRecord.cycleLevel, hpart, hoff]

/-- R73, R77: the pin at a period start follows the cycle level, or in FAILSAFE the fail action. -/
theorem periodStart_pin {e : OutputEntry} {r : OutputRecord} (h : r.state = .running ∨ r.state = .failsafe)
    (now duty : Nat) :
    (periodStart e now duty r).pin =
      if r.state = .running ∨ e.failAction = .hold then (periodStart e now duty r).cycleLevel
      else decide (e.failAction = .on) := by
  rcases h with hstate | hstate
  · simp only [periodStart, hstate, true_or, if_true, OutputRecord.cycleLevel]
  · cases hfail : e.failAction <;> simp [periodStart, hstate, hfail, OutputRecord.cycleLevel]

/-- R73, R77: a period start of an output in RUNNING or FAILSAFE, as the statement spells its record. -/
theorem periodStart_eq {e : OutputEntry} {r : OutputRecord} (h : r.state = .running ∨ r.state = .failsafe)
    (now duty : Nat) :
    periodStart e now duty r =
      { r with
          latched := duty, periodTimer := some (now + e.period * 1000 * ticksPerMs),
          onTimer := if 1 ≤ duty ∧ duty ≤ 99 then some (now + e.period * duty * 10 * ticksPerMs) else none,
          pin := if r.state = .running ∨ e.failAction = .hold then decide ((1 ≤ duty ∧ duty ≤ 99) ∨ duty = 100)
                 else decide (e.failAction = .on) } := by
  have hrange : (0 < duty ∧ duty < 100) ↔ (1 ≤ duty ∧ duty ≤ 99) := by omega
  rw [← periodStart_cycleLevel e now duty r, ← periodStart_pin h]
  simp only [periodStart, hrange]
  rfl

theorem isSome_of_isDue {now : Nat} {timer : Option Nat} (h : isDue now timer = true) : timer.isSome = true := by
  cases timer with
  | none => cases h
  | some t => rfl

/-- Settles O22: the period start with the duty that R74 and R77 give. -/
theorem periodTimerStartsTheNextPeriod : Obligations.PeriodTimerStartsTheNextPeriod := by
  unfold Obligations.PeriodTimerStartsTheNextPeriod
  intro dt o s hheld e r now duty hruns
  change event dt (fun s => s.periodExpiry o) s = _
  rw [event_running hheld, State.periodExpiry]
  cases hdue : isDue now r.periodTimer with
  | true =>
    refine congrArg Host.Outcome.next ((if_pos hdue).trans ?_)
    exact congrArg ((s.elapse dt).setOutput o) (periodStart_eq (hruns (isSome_of_isDue hdue)) now duty)
  | false => exact congrArg Host.Outcome.next (if_neg (Bool.eq_false_iff.1 hdue))

end Sys2Proof.Machine
end

section
/-! PROOFS. Every operation on an output record keeps it standing by its entry and its zones (R68 to R78). -/

namespace Sys2Proof.Machine

/-! ### The clauses of the law of one record, by name (R68 to R78) -/

/-- R68: what holds of the duties and the timers of an output that is RUNNING or in FAILSAFE. -/
structure DutiesStand (e : OutputEntry) (r : OutputRecord) : Prop where
  mode : e.mode ≠ .off
  level : e.mode = .level → r.demand = 0 ∧ r.latched = 0 ∧ r.periodTimer = none ∧ r.onTimer = none
  proportional : e.mode = .proportional → r.periodTimer.isSome ∧ (r.onTimer.isSome → 0 < r.latched ∧ r.latched < 100)
  demand_le : r.demand ≤ 100
  latched_le : r.latched ≤ 100

/-- `outputLaw`, clause by clause. -/
structure OutputStands (e : OutputEntry) (zones : Vector ZoneRecord 16) (r : OutputRecord) : Prop where
  idle_iff : r.state = .idle ↔ e.mode = .off
  idle : r.state = .idle → r = idleOutput
  inhibited : r.state = .inhibited → r.pin = false ∧ r.periodTimer = none ∧ r.onTimer = none
  level : r.state ≠ .inhibited → e.mode = .level →
    r.demand = 0 ∧ r.latched = 0 ∧ r.periodTimer = none ∧ r.onTimer = none
  proportional : r.state ≠ .inhibited → e.mode = .proportional →
    r.periodTimer.isSome ∧ (r.onTimer.isSome → 0 < r.latched ∧ r.latched < 100)
  demand_le : r.demand ≤ 100
  latched_le : r.latched ≤ 100
  running : r.state = .running → runningLaw e zones r
  failsafe : r.state = .failsafe → failsafeLaw e zones r

variable {e : OutputEntry} {zones : Vector ZoneRecord 16} {r : OutputRecord}

theorem outputLaw_iff : outputLaw e zones r = true ↔ OutputStands e zones r := by
  rw [outputLaw, decide_eq_true_iff]
  exact ⟨fun ⟨hm, hi, hn, hl, hp, hd, ht, hr, hf⟩ => ⟨hm, hi, hn, hl, hp, hd, ht, hr, hf⟩,
    fun ⟨hm, hi, hn, hl, hp, hd, ht, hr, hf⟩ => ⟨hm, hi, hn, hl, hp, hd, ht, hr, hf⟩⟩

/-- R70 to R72, R75: `runningLaw`, clause by clause. -/
theorem runningLaw_iff :
    runningLaw e zones r = true ↔ anySeen e zones = true ∧ r.isPartial = anyBlind e zones ∧
      (e.mode = .level → r.pin = levelPin e zones) ∧
      (e.mode = .proportional → r.pin = r.cycleLevel ∧ r.demand = demandOf e zones r.demand) := by
  rw [runningLaw, decide_eq_true_iff]

/-- R76: `failsafeLaw`, clause by clause. -/
theorem failsafeLaw_iff :
    failsafeLaw e zones r = true ↔ anySeen e zones = false ∧ r.isPartial = false ∧ (e.failAction = .off → r.pin = false) ∧
      (e.failAction = .on → r.pin = true) ∧
      (e.failAction = .hold → e.mode = .proportional → r.pin = r.cycleLevel) := by
  rw [failsafeLaw, decide_eq_true_iff]

theorem OutputStands.duties (h : OutputStands e zones r) (hstate : r.state = .running ∨ r.state = .failsafe) :
    DutiesStand e r := by
  have hidle : r.state ≠ .idle := by rcases hstate with hstate | hstate <;> simp [hstate]
  have hinhibited : r.state ≠ .inhibited := by rcases hstate with hstate | hstate <;> simp [hstate]
  exact ⟨fun hoff => hidle (h.idle_iff.2 hoff), h.level hinhibited, h.proportional hinhibited, h.demand_le, h.latched_le⟩

theorem outputStands_of_running (hstate : r.state = .running) (hduties : DutiesStand e r)
    (hlaw : runningLaw e zones r = true) : OutputStands e zones r where
  idle_iff := by simp [hstate, hduties.mode]
  idle := by simp [hstate]
  inhibited := by simp [hstate]
  level _ := hduties.level
  proportional _ := hduties.proportional
  demand_le := hduties.demand_le
  latched_le := hduties.latched_le
  running _ := hlaw
  failsafe := by simp [hstate]

theorem outputStands_of_failsafe (hstate : r.state = .failsafe) (hduties : DutiesStand e r)
    (hlaw : failsafeLaw e zones r = true) : OutputStands e zones r where
  idle_iff := by simp [hstate, hduties.mode]
  idle := by simp [hstate]
  inhibited := by simp [hstate]
  level _ := hduties.level
  proportional _ := hduties.proportional
  demand_le := hduties.demand_le
  latched_le := hduties.latched_le
  running := by simp [hstate]
  failsafe _ := hlaw

theorem outputStands_idleOutput (hmode : e.mode = .off) : OutputStands e zones idleOutput := by
  constructor <;> simp [idleOutput, hmode]

/-- R79: an output that is INHIBITED, whatever its demand, latched duty and PARTIAL. -/
theorem outputStands_inhibitRecord (hmode : e.mode ≠ .off) (hdemand : r.demand ≤ 100) (hlatched : r.latched ≤ 100) :
    OutputStands e zones (inhibitRecord r) := by
  constructor <;> simp [inhibitRecord, hmode, hdemand, hlatched]

/-- R68: no output that runs a timer is IDLE, INHIBITED or of mode LEVEL. -/
theorem OutputStands.of_timer (h : OutputStands e zones r)
    (htimer : r.periodTimer.isSome = true ∨ r.onTimer.isSome = true) :
    (r.state = .running ∨ r.state = .failsafe) ∧ e.mode = .proportional := by
  have hstopped : ¬(r.periodTimer = none ∧ r.onTimer = none) := fun ⟨hperiod, hon⟩ => by simp [hperiod, hon] at htimer
  have hidle : r.state ≠ .idle := fun hidle => hstopped (by simp [h.idle hidle, idleOutput])
  have hinhibited : r.state ≠ .inhibited := fun hstate => hstopped (h.inhibited hstate).2
  refine ⟨?_, ?_⟩
  · cases hstate : r.state <;> simp_all
  · cases hmode : e.mode with
    | off => exact absurd (h.idle_iff.2 hmode) hidle
    | level => exact absurd (h.level hinhibited hmode).2.2 hstopped
    | proportional => rfl

/-! ### What an output reads of the zones (section 4.2) -/

/-- Two zone tables hold the same states and margins at the zones that an output maps. -/
def SeenAlike (e : OutputEntry) (v w : Vector ZoneRecord 16) : Prop :=
  ∀ z : ZoneIx, e.zoneSet.getLsbD z.val = true →
    (tget w z).state = (tget v z).state ∧ (tget w z).margin = (tget v z).margin

/-- A question about the states of the mapped zones has one answer in two such tables. -/
theorem SeenAlike.any_state {v w : Vector ZoneRecord 16} (h : SeenAlike e v w) {p : ZoneRecord → Bool}
    (hp : ∀ a b : ZoneRecord, a.state = b.state → p a = p b) : (mappedZones e w).any p = (mappedZones e v).any p := by
  rw [mappedZones_any, mappedZones_any]
  refine congrArg _ (funext fun z => ?_)
  cases hz : e.zoneSet.getLsbD z.val with
  | false => rfl
  | true => rw [hp _ _ (h z hz).1]

theorem SeenAlike.seenMargins {v w : Vector ZoneRecord 16} (h : SeenAlike e v w) : seenMargins e w = seenMargins e v := by
  simp only [Machine.seenMargins, mappedZones, List.filterMap_filterMap]
  refine List.filterMap_congr fun z _ => ?_
  cases hz : e.zoneSet.getLsbD z.val with
  | false => rfl
  | true =>
    obtain ⟨hstate, hmargin⟩ := h z hz
    have hseen : (tget w z).isSeen = (tget v z).isSeen := by rw [ZoneRecord.isSeen, ZoneRecord.isSeen, hstate]
    simp only [ZoneRecord.margin] at hmargin
    simp [hseen, hmargin]

theorem SeenAlike.anySeen {v w : Vector ZoneRecord 16} (h : SeenAlike e v w) : anySeen e w = anySeen e v :=
  h.any_state fun a b hab => by rw [ZoneRecord.isSeen, ZoneRecord.isSeen, hab]

theorem SeenAlike.anyBlind {v w : Vector ZoneRecord 16} (h : SeenAlike e v w) : anyBlind e w = anyBlind e v :=
  h.any_state fun a b hab => by rw [hab]

theorem SeenAlike.levelPin {v w : Vector ZoneRecord 16} (h : SeenAlike e v w) : levelPin e w = levelPin e v :=
  h.any_state fun a b hab => by rw [hab]

theorem SeenAlike.demandOf {v w : Vector ZoneRecord 16} (h : SeenAlike e v w) (old : Nat) :
    demandOf e w old = demandOf e v old := by rw [Machine.demandOf, Machine.demandOf, h.seenMargins]

/-- An output that no zone change bears on stands as it did. -/
theorem OutputStands.of_alike {v w : Vector ZoneRecord 16} (h : OutputStands e v r) (hsame : SeenAlike e v w) :
    OutputStands e w r where
  idle_iff := h.idle_iff
  idle := h.idle
  inhibited := h.inhibited
  level := h.level
  proportional := h.proportional
  demand_le := h.demand_le
  latched_le := h.latched_le
  running hstate := by
    have hlaw := runningLaw_iff.1 (h.running hstate)
    exact runningLaw_iff.2 (by rwa [hsame.anySeen, hsame.anyBlind, hsame.levelPin, hsame.demandOf])
  failsafe hstate := by
    have hlaw := failsafeLaw_iff.1 (h.failsafe hstate)
    exact failsafeLaw_iff.2 (by rwa [hsame.anySeen])

/-! ### Re-drive (R69 to R78) -/

/-- R76: an output with lawful duties that sees no mapped zone and enters FAILSAFE. -/
theorem outputStands_enterFailsafe (hduties : DutiesStand e r) (hseen : anySeen e zones = false) :
    OutputStands e zones (enterFailsafe e r) := by
  obtain ⟨hmode, hlevel, hproportional, hdemand, hlatched⟩ := hduties
  refine outputStands_of_failsafe rfl ⟨hmode, hlevel, hproportional, hdemand, hlatched⟩ (failsafeLaw_iff.2 ?_)
  refine ⟨hseen, rfl, fun hoff => ?_, fun hon => ?_, fun hhold hprop => ?_⟩
  · simp [enterFailsafe, failPin, hoff]
  · simp [enterFailsafe, failPin, hon]
  · simp [enterFailsafe, failPin, hhold, hprop, OutputRecord.cycleLevel]

/-- R69: a re-drive brings an output that stood by its zones to stand by the zones as they are now. -/
theorem OutputStands.redriven {old : Vector ZoneRecord 16} (h : OutputStands e old r) (zones : Vector ZoneRecord 16) :
    OutputStands e zones (redriveRecord e zones r) := by
  by_cases hstill : r.state = .idle ∨ r.state = .inhibited
  · rw [redriveRecord_still hstill]
    exact { h with
      running := fun hstate => by simp [hstate] at hstill
      failsafe := fun hstate => by simp [hstate] at hstill }
  have hstate : r.state = .running ∨ r.state = .failsafe := by cases hstate : r.state <;> simp_all
  have hduties := h.duties hstate
  have ⟨hmode, hlevel, hproportional, hdemand, hlatched⟩ := hduties
  rw [redriveRecord, if_neg hstill]
  cases hseen : anySeen e zones with
  | true =>
    rw [if_pos rfl]
    cases hm : e.mode with
    | off => exact absurd hm hmode
    | level =>
      exact outputStands_of_running rfl ⟨hmode, hlevel, hproportional, hdemand, hlatched⟩
        (runningLaw_iff.2 ⟨hseen, rfl, fun _ => rfl, by simp [hm]⟩)
    | proportional =>
      exact outputStands_of_running rfl ⟨hmode, by simp [hm], hproportional, demandOf_le hdemand, hlatched⟩
        (runningLaw_iff.2 ⟨hseen, rfl, by simp [hm], fun _ => ⟨rfl, (demandOf_demandOf e zones r.demand).symm⟩⟩)
  | false =>
    rw [if_neg Bool.false_ne_true]
    split
    · next hfailsafe =>
      obtain ⟨_, hpin⟩ := failsafeLaw_iff.1 (h.failsafe hfailsafe)
      exact outputStands_of_failsafe hfailsafe hduties (failsafeLaw_iff.2 ⟨hseen, hpin⟩)
    · exact outputStands_enterFailsafe hduties hseen

/-! ### The period cycle (R73, R74, R77) -/

/-- R73: a period start, with a duty of at most 100, of an output that sees its zones in RUNNING and none in FAILSAFE. -/
theorem outputStands_periodStart (hmode : e.mode = .proportional) (hstate : r.state = .running ∨ r.state = .failsafe)
    (hdemand : r.demand ≤ 100)
    (hrunning : r.state = .running → anySeen e zones = true ∧ r.isPartial = anyBlind e zones ∧
      r.demand = demandOf e zones r.demand)
    (hfailsafe : r.state = .failsafe → anySeen e zones = false ∧ r.isPartial = false)
    (now : Nat) {duty : Nat} (hduty : duty ≤ 100) : OutputStands e zones (periodStart e now duty r) := by
  have hduties : DutiesStand e (periodStart e now duty r) :=
    { mode := by simp [hmode]
      level := by simp [hmode]
      proportional := fun _ => ⟨rfl, fun hon => by simpa [periodStart] using hon⟩
      demand_le := hdemand
      latched_le := hduty }
  have hpin := periodStart_pin (e := e) hstate now duty
  rcases hstate with hstate | hstate
  · obtain ⟨hseen, hpartial, hformed⟩ := hrunning hstate
    rw [if_pos (.inl hstate)] at hpin
    exact outputStands_of_running hstate hduties
      (runningLaw_iff.2 ⟨hseen, hpartial, by simp [hmode], fun _ => ⟨hpin, hformed⟩⟩)
  · obtain ⟨hseen, hpartial⟩ := hfailsafe hstate
    refine outputStands_of_failsafe hstate hduties (failsafeLaw_iff.2 ⟨hseen, hpartial, fun hoff => ?_, fun hon => ?_,
      fun hhold _ => ?_⟩)
    · simpa [hstate, hoff] using hpin
    · simpa [hstate, hon] using hpin
    · simpa [hstate, hhold] using hpin

/-- R74: the expiry of a period timer that runs. -/
theorem OutputStands.periodEnds (h : OutputStands e zones r) (htimer : r.periodTimer.isSome = true) (now : Nat) :
    OutputStands e zones (periodEnds e now r) := by
  obtain ⟨hstate, hmode⟩ := h.of_timer (.inl htimer)
  refine outputStands_periodStart hmode hstate h.demand_le (fun hrunning => ?_) (fun hfailsafe => ?_) now ?_
  · obtain ⟨hseen, hpartial, _, hpin⟩ := runningLaw_iff.1 (h.running hrunning)
    exact ⟨hseen, hpartial, (hpin hmode).2⟩
  · obtain ⟨hseen, hpartial, _⟩ := failsafeLaw_iff.1 (h.failsafe hfailsafe)
    exact ⟨hseen, hpartial⟩
  · split
    · exact h.demand_le
    · exact h.latched_le

/-- R74: the expiry of an on-time timer that runs, in a period whose duty is therefore not 100. -/
theorem OutputStands.onTimeEnds (h : OutputStands e zones r) (htimer : r.onTimer.isSome = true) :
    OutputStands e zones (onTimeEnds e r) := by
  obtain ⟨hstate, hmode⟩ := h.of_timer (.inr htimer)
  obtain ⟨hnotOff, hlevel, hproportional, hdemand, hlatched⟩ := h.duties hstate
  obtain ⟨hperiod, hpart⟩ := hproportional hmode
  have hduties : DutiesStand e (Machine.onTimeEnds e r) :=
    ⟨hnotOff, by simp [hmode], fun _ => ⟨hperiod, by simp [Machine.onTimeEnds]⟩, hdemand, hlatched⟩
  have hcycle : (Machine.onTimeEnds e r).cycleLevel = false := by
    have hnotFull : r.latched ≠ 100 := Nat.ne_of_lt (hpart htimer).2
    simp [Machine.onTimeEnds, OutputRecord.cycleLevel, hnotFull]
  have hpinEnds := congrArg OutputRecord.pin (onTimeEnds_eq e r)
  rcases hstate with hstate | hstate
  · obtain ⟨hseen, hpartial, _, hpin⟩ := runningLaw_iff.1 (h.running hstate)
    rw [if_pos (.inl hstate)] at hpinEnds
    exact outputStands_of_running hstate hduties (runningLaw_iff.2
      ⟨hseen, hpartial, by simp [hmode], fun _ => ⟨hpinEnds.trans hcycle.symm, (hpin hmode).2⟩⟩)
  · obtain ⟨hseen, hpartial, hoff, hon, _⟩ := failsafeLaw_iff.1 (h.failsafe hstate)
    refine outputStands_of_failsafe hstate hduties (failsafeLaw_iff.2 ⟨hseen, hpartial, fun hfail => ?_,
      fun hfail => ?_, fun hfail _ => ?_⟩)
    · simpa [hstate, hfail, hoff hfail] using hpinEnds
    · simpa [hstate, hfail, hon hfail] using hpinEnds
    · simpa [hstate, hfail, hcycle] using hpinEnds

/-! ### Outputs recomputed (R80, R83, R86) -/

/-- R80, R83: a LEVEL output recomputed, whatever its record was. -/
theorem outputStands_recomputeLevel (hmode : e.mode = .level) (zones : Vector ZoneRecord 16) (r : OutputRecord) :
    OutputStands e zones (recomputeLevel e zones r) := by
  simp only [recomputeLevel]
  split
  · next hseen =>
    exact outputStands_of_running rfl ⟨by simp [hmode], by simp, by simp [hmode], by simp, by simp⟩
      (runningLaw_iff.2 ⟨hseen, rfl, fun _ => rfl, by simp [hmode]⟩)
  · next hseen =>
    exact outputStands_enterFailsafe ⟨by simp [hmode], by simp, by simp [hmode], by simp, by simp⟩
      (Bool.eq_false_iff.2 hseen)

/-- R80, R83: a PROPORTIONAL output recomputed, whatever its record was, from a demand of at most 100. -/
theorem outputStands_recomputeProportional (hmode : e.mode = .proportional) (zones : Vector ZoneRecord 16) (now : Nat)
    {holds : Nat} (hholds : holds ≤ 100) (r : OutputRecord) :
    OutputStands e zones (recomputeProportional e zones now holds r) := by
  have hdemand : demandOf e zones holds ≤ 100 := demandOf_le hholds
  rw [recomputeProportional]
  split
  · next hseen =>
    exact outputStands_periodStart hmode (.inl rfl) hdemand
      (fun _ => ⟨hseen, rfl, (demandOf_demandOf e zones holds).symm⟩) (by simp) now hdemand
  · next hseen =>
    exact outputStands_periodStart hmode (.inr rfl) hholds (by simp) (fun _ => ⟨Bool.eq_false_iff.2 hseen, rfl⟩) now
      hholds

/-- R80: a RELEASE. -/
theorem OutputStands.release (h : OutputStands e zones r) (now : Nat) :
    OutputStands e zones (releaseRecord e zones now r) := by
  rw [releaseRecord]
  split
  · cases hmode : e.mode with
    | off => exact h
    | level => exact outputStands_recomputeLevel hmode zones r
    | proportional => exact outputStands_recomputeProportional hmode zones now h.demand_le r
  · exact h

/-- R83: a swap, by whichever entries and whichever zones. -/
theorem OutputStands.swapped {old : Vector ZoneRecord 16} (h : OutputStands e old r) (new : OutputEntry)
    (zones : Vector ZoneRecord 16) (now : Nat) : OutputStands new zones (swapOutput e new zones now r) := by
  have hinhibited : r.state = .inhibited → new.mode ≠ .off → OutputStands new zones r := fun hstate hmode => by
    obtain ⟨hpin, hperiod, hon⟩ := h.inhibited hstate
    constructor <;> simp [hstate, hmode, hpin, hperiod, hon, h.demand_le, h.latched_le]
  rw [swapOutput]
  cases hmode : new.mode with
  | off => exact outputStands_idleOutput hmode
  | level =>
    dsimp only
    split
    · next hstate => exact hinhibited hstate (by simp [hmode])
    · exact outputStands_recomputeLevel hmode zones r
  | proportional =>
    dsimp only
    split
    · next hstate => exact hinhibited hstate (by simp [hmode])
    · refine outputStands_recomputeProportional hmode zones now ?_ r
      split
      · exact h.demand_le
      · exact Nat.zero_le _

/-- R86: an output at the end of full reset, when no zone is seen. -/
theorem outputStands_startOutput (hseen : anySeen e zones = false) : OutputStands e zones (startOutput e) := by
  rw [startOutput]
  cases hmode : e.mode with
  | off => exact outputStands_idleOutput hmode
  | level =>
    exact outputStands_enterFailsafe
      ⟨by simp [hmode], by simp [idleOutput], by simp [hmode], by simp [idleOutput], by simp [idleOutput]⟩ hseen
  | proportional =>
    exact outputStands_periodStart hmode (.inr rfl) (Nat.zero_le _) (by simp) (fun _ => ⟨hseen, rfl⟩) 0 (Nat.zero_le _)

end Sys2Proof.Machine
end

section
/-! PROOFS. Every effect keeps the outputs as R68 to R78 give them, and so does every step. -/

namespace Sys2Proof.Machine

open Sys2Proof.Stated

/-! ### The outputs of a running part -/

/-- Out of reset, every output stands by its active entry and its zones. -/
structure OutputsStand (s : State) : Prop where
  running : s.held = false
  records : ∀ o, OutputStands (tget s.active.outputs o) s.zones (tget s.outputs o)

theorem outputsStand_iff {s : State} (hheld : s.held = false) : OutputsStand s ↔ s.outputsLawful := by
  rw [State.outputsLawful, if_neg (by simp [hheld])]
  exact ⟨fun h o => outputLaw_iff.2 (h.records o), fun h => ⟨hheld, fun o => outputLaw_iff.1 (h o)⟩⟩

/-- What leaves the zones and the outputs, with the bank that they stand by. -/
theorem OutputsStand.of_same {s t : State} (h : OutputsStand s) (hsame : SameZones s t)
    (houtputs : t.outputs = s.outputs) : OutputsStand t where
  running := hsame.held.trans h.running
  records o := by rw [hsame.active, hsame.zones, houtputs]; exact h.records o

/-- One output written that stands by its entry and its zones. -/
theorem OutputsStand.setOutput {s : State} (h : OutputsStand s) {o : OutIx} {r : OutputRecord}
    (hr : OutputStands (tget s.active.outputs o) s.zones r) : OutputsStand (s.setOutput o r) where
  running := h.running
  records := tset_forall (P := fun o r => OutputStands (tget s.active.outputs o) s.zones r) hr h.records

theorem OutputsStand.onTimeExpiry {s : State} (h : OutputsStand s) (o : OutIx) : OutputsStand (s.onTimeExpiry o) := by
  unfold State.onTimeExpiry
  split
  · next hdue => exact h.setOutput ((h.records o).onTimeEnds (isSome_of_isDue hdue))
  · exact h

theorem OutputsStand.periodExpiry {s : State} (h : OutputsStand s) (o : OutIx) : OutputsStand (s.periodExpiry o) := by
  unfold State.periodExpiry
  split
  · next hdue => exact h.setOutput ((h.records o).periodEnds (isSome_of_isDue hdue) s.now)
  · exact h

/-! ### Zones (R56, R57, R67) -/

/-- R67: a write of one zone's record is not seen by the outputs that do not map the zone. -/
theorem seenAlike_putZone_unmapped {e : OutputEntry} {s : State} {z : ZoneIx}
    (hunmapped : e.zoneSet.getLsbD z.val = false) (r : ZoneRecord) : SeenAlike e s.zones (s.putZone z r).zones := by
  intro y hy
  have hne : z ≠ y := fun hzy => Bool.false_ne_true (by rw [← hunmapped, hzy, hy])
  rw [putZone_zones, tget_tset_ne _ _ hne]
  exact ⟨rfl, rfl⟩

/-- R56, R57: a zone record that is not handed over is seen as the one it replaces. -/
theorem seenAlike_putZone_silent {s : State} {z : ZoneIx} {r : ZoneRecord}
    (hsilent : ¬ handsOver (tget s.zones z) r = true) (e : OutputEntry) :
    SeenAlike e s.zones (s.putZone z r).zones := by
  rw [handsOver_iff, not_or, not_not, not_not] at hsilent
  intro y _
  rw [putZone_zones, tget_tset]
  split
  · next hzy => rwa [stampedZone, if_pos hsilent.1, ← hzy]
  · exact ⟨rfl, rfl⟩

/-- R57, R67: a zone write with its hand-over: the outputs that map a zone handed over are re-driven, and no other output
sees the write. -/
theorem OutputsStand.putAndHandOver {s : State} (h : OutputsStand s) (z : ZoneIx) (r : ZoneRecord) :
    OutputsStand (s.putAndHandOver z r) := by
  unfold State.putAndHandOver
  split
  · refine ⟨by simp [h.running], fun o => ?_⟩
    rw [redrive_active, redrive_zones, putZone_active]
    cases hmapped : (tget s.active.outputs o).zoneSet.getLsbD z.val with
    | false =>
      rw [redrive_unmapped _ (by rwa [putZone_active]), putZone_outputs]
      exact (h.records o).of_alike (seenAlike_putZone_unmapped hmapped r)
    | true =>
      simp only [State.redrive, putZone_active, putZone_outputs, tget_tmap, hmapped, if_true]
      exact (h.records o).redriven _
  · next hsilent =>
    refine ⟨by simp [h.running], fun o => ?_⟩
    rw [putZone_active, putZone_outputs]
    exact (h.records o).of_alike (seenAlike_putZone_silent hsilent _)

theorem OutputsStand.zoneExpiry {s : State} (h : OutputsStand s) (z : ZoneIx) : OutputsStand (s.zoneExpiry z) := by
  unfold State.zoneExpiry
  split
  · split
    · exact h.putAndHandOver z _
    · exact h
  · exact h

theorem OutputsStand.evaluatePodZone {s : State} (h : OutputsStand s) (i : PodIx) :
    OutputsStand (s.evaluatePodZone i) := by
  unfold State.evaluatePodZone State.evaluate
  split
  · split
    · exact h.putAndHandOver _ _
    · exact h
  · exact h

/-! ### Samples (R21 to R29) -/

/-- TABLE 2-4: of a taken reply a new sample alone bears on the outputs, by the evaluation of its pod's zone. -/
theorem OutputsStand.takeReply {s : State} (h : OutputsStand s) (i : PodIx) (p : List Byte) :
    OutputsStand (s.takeReply i p) := by
  have htaken := h.of_same (setPod_sameZones s i (takenRecord (s.podEntry i) s.now (tget s.pods i) p)) rfl
  have hcovered := htaken.of_same (enterCoverage_sameZones _ i) (enterCoverage_outputs _ i)
  simp only [State.takeReply]
  split
  · exact htaken.of_same (count_sameZones _ _) rfl
  · exact htaken.of_same (count_sameZones _ _) rfl
  · exact hcovered
  · exact hcovered.evaluatePodZone i

theorem OutputsStand.staleExpiry {s : State} (h : OutputsStand s) (i : PodIx) : OutputsStand (s.staleExpiry i) := by
  unfold State.staleExpiry
  split
  · exact (h.of_same (setPod_sameZones s i _) rfl).evaluatePodZone i
  · exact h

/-! ### Start-up, swap and field restart -/

/-- R86, R186: after start-up no zone is seen, and every output is as its entry asks then. -/
theorem setUp_outputsStand (s : State) (trate : BitVec 2) (addr : BitVec 6) : OutputsStand (s.setUp trate addr) := by
  rw [State.setUp, automaticStart_eq rfl]
  refine OutputsStand.of_same ⟨rfl, fun o => ?_⟩ (setSweep_sameZones _ _) rfl
  rw [tget_tmap]
  refine outputStands_startOutput (anySeen_eq_false (fun z => ?_) _)
  rw [tget_tmap, resetZone]
  cases (tget s.startBank.zones z).enabled <;> simp

/-- R83, R168: a swap hands every output from its outgoing entry to its incoming one, with the zones as they are then. -/
theorem OutputsStand.flip {s : State} (h : OutputsStand s) : OutputsStand s.flip := by
  obtain ⟨pods, zones, changeSet, alert, outputs, hflipped, hflip⟩ := flip_eq s
  rw [hflip]
  refine ⟨h.running, fun o => ?_⟩
  have hrecord := (h.records o).swapped (tget s.shadow.outputs o) zones s.now
  rw [← hflipped.eachOutput o, ← active_other] at hrecord
  exact hrecord

/-- R85: a FIELD-RESTART re-drives every output once. -/
theorem OutputsStand.restartField {s : State} (h : OutputsStand s) : OutputsStand s.restartField := by
  obtain ⟨zones, changeSet, alert, outputs, hrestarted, hrestart⟩ := restartField_eq s
  rw [hrestart]
  refine ⟨h.running, fun o => ?_⟩
  have hrecord := (h.records o).redriven zones
  rw [← hrestarted.eachOutput o] at hrecord
  exact hrecord

/-! ### Management requests -/

/-- R171: of the requests INHIBIT, RELEASE, the swap and the FIELD-RESTART alone bear on the outputs. -/
theorem Requested.outputsStand {s t : State} (hrequest : Requested s t) (h : OutputsStand s) : OutputsStand t := by
  cases hrequest with
  | unchanged | statusRead | sweepStopped | storeBegun | countersCleared => exact h.of_same ⟨rfl, rfl, rfl, rfl⟩ rfl
  | podWritten | zoneWritten | outputWritten | listWritten | fieldWritten | copied =>
    exact h.of_same (setShadow_sameZones s _) (setShadow_outputs s _)
  | swapped => exact h.flip
  | sweepStarted hstart =>
    obtain ⟨w, rfl⟩ := sweepStart_eq_setSweep hstart
    exact h.of_same (setSweep_sameZones s w) rfl
  | sweepResumed hresume =>
    obtain ⟨w, rfl⟩ := sweepResume_eq_setSweep hresume
    exact h.of_same (setSweep_sameZones s w) rfl
  | inhibited o hmode =>
    exact h.setOutput (outputStands_inhibitRecord hmode (h.records o).demand_le (h.records o).latched_le)
  | released o => exact h.setOutput ((h.records o).release s.now)
  | fieldRestarted => exact h.restartField

/-! ### The trunk port -/

theorem trunkMark_outputs (s : State) (c : Byte) (stop : Bool) : (s.trunkMark c stop).outputs = s.outputs := by
  unfold State.trunkMark State.offerTrunk
  (repeat' split) <;> rfl

theorem trunkGap_outputs (s : State) : s.trunkGap.outputs = s.outputs := by
  unfold State.trunkGap
  (repeat' split) <;> rfl

theorem startTransmission_outputs (s : State) : s.startTransmission.outputs = s.outputs := by
  unfold State.startTransmission
  (repeat' split) <;> rfl

theorem endTransmission_outputs (s : State) : s.endTransmission.outputs = s.outputs := by
  unfold State.endTransmission
  (repeat' split) <;> rfl

/-- R107: a request is taken, and its slot then holds the response. -/
theorem OutputsStand.answerRequest {s : State} (h : OutputsStand s) (k : SlotNo) (kind : Byte) (p : List Byte) :
    OutputsStand (s.answerRequest k kind p) :=
  ((takeRequest_requested s kind p).outputsStand h).of_same ⟨rfl, rfl, rfl, rfl⟩ rfl

/-- R141: of the complete telegrams a good one to the own address alone bears on the outputs. -/
theorem OutputsStand.completeTrunk {s : State} (h : OutputsStand s) (k : SlotNo) : OutputsStand (s.completeTrunk k) := by
  simp only [State.completeTrunk]
  split
  · split
    · exact (h.of_same (count_sameZones s _) rfl).answerRequest k _ _
    · exact h.of_same ⟨rfl, rfl, rfl, rfl⟩ rfl
  · exact h.of_same ⟨rfl, rfl, rfl, rfl⟩ rfl

theorem OutputsStand.trunkData {s : State} (h : OutputsStand s) (c : Byte) (stop : Bool) :
    OutputsStand (s.trunkData c stop) := by
  have htouched := h.of_same (touchTrunk_sameZones s) rfl
  simp only [State.trunkData, State.storeTrunkChar]
  split
  · exact htouched
  · split
    · split
      · exact htouched.of_same ⟨rfl, rfl, rfl, rfl⟩ rfl
      · exact htouched.of_same ⟨rfl, rfl, rfl, rfl⟩ rfl
      · exact (htouched.of_same (fillSlot_sameZones _ _ _) rfl).completeTrunk _
    · exact htouched.of_same (abandonTrunk_sameZones _) rfl
  · exact h

theorem OutputsStand.requestArrives {s : State} (h : OutputsStand s) (kind : Byte) (p : List Byte) :
    OutputsStand (s.requestArrives kind p) := by
  have hmark := h.of_same (trunkMark_sameZones s (downChar s.ownAddr) true) (trunkMark_outputs s _ _)
  simp only [State.requestArrives]
  split
  · split
    · exact hmark.of_same ⟨rfl, rfl, rfl, rfl⟩ rfl
    · exact (hmark.of_same (fillSlot_sameZones _ _ _) rfl).completeTrunk _
  · exact hmark

/-! ### The field port -/

theorem startTxn_outputs (s : State) : s.startTxn.outputs = s.outputs := by
  unfold State.startTxn State.startSweepTxn
  (repeat' split) <;> rfl

theorem sendingEnd_outputs (s : State) : s.sendingEnd.outputs = s.outputs := by
  unfold State.sendingEnd
  (repeat' split) <;> rfl

/-- R127, R128: a miss does not bear on the outputs. -/
theorem missTxn_outputs (s : State) (t : Txn) (k : SlotNo) : (s.missTxn t k).outputs = s.outputs := by
  unfold State.missTxn
  cases podOf t.target.toNat <;> cases s.heldFor t <;> simp

theorem badReply_outputs (s : State) (t : Txn) (k : SlotNo) : (s.badReply t k).outputs = s.outputs :=
  missTxn_outputs (s.count .fieldBad) t k

/-- TABLE 7-4: a mark character at most ends a reply as a miss. -/
theorem fieldMark_outputs (s : State) (c : Byte) (stop : Bool) : (s.fieldMark c stop).outputs = s.outputs := by
  unfold State.fieldMark
  split
  · split <;> rfl
  · rfl
  · split <;> rfl
  · split <;> exact badReply_outputs s.touchField _ _
  · split <;> rfl

theorem fieldGap_outputs (s : State) : s.fieldGap.outputs = s.outputs := by
  unfold State.fieldGap
  split
  · split
    · exact badReply_outputs s _ _
    · rfl
  · rfl

theorem windowExpiry_outputs (s : State) : s.windowExpiry.outputs = s.outputs := by
  unfold State.windowExpiry
  split
  · split
    · exact missTxn_outputs s _ _
    · rfl
  · rfl

theorem guardExpiry_outputs (s : State) : s.guardExpiry.outputs = s.outputs := by
  unfold State.guardExpiry
  (repeat' split) <;> rfl

theorem OutputsStand.forwardSample {s : State} (h : OutputsStand s) (k : SlotNo) (i : PodIx) (reply : List Byte) :
    OutputsStand (s.forwardSample k i reply) := by
  unfold State.forwardSample
  split
  · split
    · exact (h.of_same (count_sameZones s _) rfl).takeReply i _
    · split
      · exact h.takeReply i _
      · exact (h.takeReply i _).of_same ⟨rfl, rfl, rfl, rfl⟩ rfl
  · exact h.takeReply i _

/-- R123, TABLE 7-3: a good reply bears on the outputs as the sample engine takes it. -/
theorem OutputsStand.goodReply {s : State} (h : OutputsStand s) (t : Txn) (k : SlotNo) :
    OutputsStand (s.goodReply t k) := by
  have hcounted := h.of_same (count_sameZones s .fieldReplies) rfl
  simp only [State.goodReply]
  refine OutputsStand.of_same ?_ (enterGuard_sameZones _ _ _) rfl
  split
  · exact (hcounted.forwardSample k _ _).of_same ⟨rfl, rfl, rfl, rfl⟩ rfl
  · exact hcounted.of_same ⟨rfl, rfl, rfl, rfl⟩ rfl
  · exact hcounted.takeReply _ _
  · exact hcounted

theorem OutputsStand.storeReplyChar {s : State} (h : OutputsStand s) (t : Txn) (k : SlotNo) (c : Byte) :
    OutputsStand (s.storeReplyChar t k c) := by
  have hstored := h.of_same (fillSlot_sameZones s k (s.slot k ++ [c])) rfl
  have hbad := hstored.of_same (badReply_sameZones _ t k) (badReply_outputs _ t k)
  simp only [State.storeReplyChar]
  split
  · exact h.of_same ⟨rfl, rfl, rfl, rfl⟩ rfl
  · exact hbad
  · split
    · exact hstored.goodReply t k
    · exact hbad

theorem OutputsStand.fieldData {s : State} (h : OutputsStand s) (c : Byte) (stop : Bool) :
    OutputsStand (s.fieldData c stop) := by
  have htouched := h.of_same (touchField_sameZones s) rfl
  unfold State.fieldData
  split
  · exact htouched
  · exact h
  · exact htouched
  · split
    · exact htouched.storeReplyChar _ _ c
    · exact htouched.of_same (badReply_sameZones _ _ _) (badReply_outputs _ _ _)
  · exact h.of_same ⟨rfl, rfl, rfl, rfl⟩ rfl

/-! ### The sweep and the store -/

theorem delayExpiry_outputs (s : State) : s.delayExpiry.outputs = s.outputs := by
  unfold State.delayExpiry
  split <;> rfl

theorem paceExpiry_outputs (s : State) : s.paceExpiry.outputs = s.outputs := by
  unfold State.paceExpiry
  split <;> rfl

theorem storeExpiry_outputs (s : State) (cellsMatch : Bool) : (s.storeExpiry cellsMatch).outputs = s.outputs := by
  unfold State.storeExpiry
  (repeat' split) <;> rfl

/-! ### Every step -/

/-- Out of reset, an effect that keeps the outputs standing by their entries and zones keeps the law. -/
theorem outputsLawful_of_stand {s t : State} (hkeeps : OutputsStand s → OutputsStand t) (hheld : s.held = false)
    (h : s.outputsLawful) : t.outputsLawful := by
  have hstands := hkeeps ((outputsStand_iff hheld).2 h)
  exact (outputsStand_iff hstands.running).1 hstands

/-- The same for an effect that bears neither on the zones nor on the outputs. -/
theorem outputsLawful_of_same {s t : State} (hsame : SameZones s t) (houtputs : t.outputs = s.outputs) :
    s.held = false → s.outputsLawful → t.outputsLawful :=
  outputsLawful_of_stand fun h => h.of_same hsame houtputs

/-- R185: in reset every pin is off. -/
theorem enterReset_outputsLawful (s : State) : s.enterReset.outputsLawful := by
  rw [State.outputsLawful, if_pos (show s.enterReset.held = true from rfl)]
  exact fun o => congrArg OutputRecord.pin (tget_tmap s.outputs _ o)

theorem outputsLawful_keptByEffects : KeptByEffects State.outputsLawful where
  queue _ _ h := h
  elapse _ _ h := h
  enterReset s _ := enterReset_outputsLawful s
  setUp s trate addr _ :=
    have hstands := setUp_outputsStand s.enterReset trate addr
    (outputsStand_iff hstands.running).1 hstands
  trunkMark s c stop := outputsLawful_of_same (trunkMark_sameZones s c stop) (trunkMark_outputs s c stop)
  trunkData _ c stop := outputsLawful_of_stand fun h => h.trunkData c stop
  trunkGap s := outputsLawful_of_same (trunkGap_sameZones s) (trunkGap_outputs s)
  startTransmission s := outputsLawful_of_same (startTransmission_sameZones s) (startTransmission_outputs s)
  endTransmission s := outputsLawful_of_same (endTransmission_sameZones s) (endTransmission_outputs s)
  startTxn s := outputsLawful_of_same (startTxn_sameZones s) (startTxn_outputs s)
  sendingEnd s := outputsLawful_of_same (sendingEnd_sameZones s) (sendingEnd_outputs s)
  fieldMark s c stop := outputsLawful_of_same (fieldMark_sameZones s c stop) (fieldMark_outputs s c stop)
  fieldData _ c stop := outputsLawful_of_stand fun h => h.fieldData c stop
  fieldGap s := outputsLawful_of_same (fieldGap_sameZones s) (fieldGap_outputs s)
  windowExpiry s := outputsLawful_of_same (windowExpiry_sameZones s) (windowExpiry_outputs s)
  guardExpiry s := outputsLawful_of_same (guardExpiry_sameZones s) (guardExpiry_outputs s)
  staleExpiry _ i := outputsLawful_of_stand fun h => h.staleExpiry i
  zoneExpiry _ z := outputsLawful_of_stand fun h => h.zoneExpiry z
  onTimeExpiry _ o := outputsLawful_of_stand fun h => h.onTimeExpiry o
  periodExpiry _ o := outputsLawful_of_stand fun h => h.periodExpiry o
  delayExpiry s := outputsLawful_of_same (delayExpiry_sameZones s) (delayExpiry_outputs s)
  paceExpiry s := outputsLawful_of_same (paceExpiry_sameZones s) (paceExpiry_outputs s)
  storeExpiry s cellsMatch :=
    outputsLawful_of_same (storeExpiry_sameZones s cellsMatch) (storeExpiry_outputs s cellsMatch)
  requestArrives _ kind p := outputsLawful_of_stand fun h => h.requestArrives kind p

/-- Settles O25: every effect keeps the law of the outputs, so every step does. The law of the zones is not needed: a
re-drive and a recomputation make an output stand by its zones whatever these hold. -/
theorem everyStepKeepsOutputsLawful : Obligations.EveryStepKeepsOutputsLawful := by
  unfold Obligations.EveryStepKeepsOutputsLawful
  exact fun s t _ => outputsLawful_keptByEffects.step

end Sys2Proof.Machine
end

section
/-! PROOFS. OUTPUT-CONTROL (R79, R80, R82, R176): what INHIBIT and RELEASE leave, and what they answer. -/

namespace Sys2Proof.Machine

open Sys2Proof.Stated

/-! ### The answer with the record as the command left it (R82) -/

/-- R82: a record written is reported as the statement spells it. -/
theorem outputReport_setOutput (s : State) (o : OutIx) (r : OutputRecord) :
    (s.setOutput o r).outputReport o = (s.setOutput o r, 0 :: Stated.outputReport s.now o r) := by
  simp only [State.outputReport, setOutput_outputs, setOutput_now, tget_tset_same, Stated.outputReport, State.report]
  cases r.periodTimer with
  | none => rfl
  | some t => simp only [Option.elim_some, msLeft, ms, Nat.one_mul, Status.char]

/-- R101, R107: an OUTPUT-CONTROL that writes one output is answered with the record it wrote, and nothing else
changes. -/
theorem answerRequest_outputWritten {s : State} {k : SlotNo} (h : ready s k) {dt : Nat} {p : List Byte} {o : OutIx}
    {r : OutputRecord}
    (htaken : (s.requestTaken dt k 0x5D p).takeRequest 0x5D p =
      ((s.requestTaken dt k 0x5D p).setOutput o r).outputReport o) :
    (s.requestTaken dt k 0x5D p).answerRequest k 0x5D p =
      { answered s dt k 0x5D p (0 :: Stated.outputReport (s.now + dt) o r) with outputs := tset s.outputs o r } :=
  answerRequest_blocks h (htaken.trans (outputReport_setOutput _ o r))

/-! ### INHIBIT (R79) -/

theorem takeRequest_inhibit (s : State) (c : Byte) :
    s.takeRequest 0x5D [c, 0] = match outputOf c.toNat with
      | some o => s.inhibit o
      | none => (s, [4]) := by
  rw [show s.takeRequest 0x5D [c, 0] = s.controlOutput [c, 0] from rfl, State.controlOutput,
    show charAt [c, 0] 0 = c from rfl]
  cases outputOf c.toNat <;> rfl

/-- Settles O23. -/
theorem inhibitTurnsTheOutputOff : Obligations.InhibitTurnsTheOutputOff := by
  unfold Obligations.InhibitTurnsTheOutputOff
  intro dt c s k h
  have htaken := takeRequest_inhibit (s.requestTaken dt k 0x5D [c, 0]) c
  refine (event_request h dt 0x5D (by simp)).trans (congrArg _ ?_)
  cases houtput : outputOf c.toNat with
  | none =>
    rw [houtput] at htaken
    exact answerRequest_unchanged h htaken
  | some o =>
    rw [houtput] at htaken
    by_cases hmode : (tget s.active.outputs o).mode = .off
    · simp only [if_pos hmode]
      exact answerRequest_unchanged h (htaken.trans (if_pos hmode))
    · simp only [if_neg hmode]
      exact answerRequest_outputWritten h (htaken.trans (if_neg hmode))

/-! ### RELEASE (R80) -/

theorem takeRequest_release (s : State) (c : Byte) :
    s.takeRequest 0x5D [c, 1] = match outputOf c.toNat with
      | some o => s.release o
      | none => (s, [4]) := by
  rw [show s.takeRequest 0x5D [c, 1] = s.controlOutput [c, 1] from rfl, State.controlOutput,
    show charAt [c, 1] 0 = c from rfl]
  cases outputOf c.toNat <;> rfl

/-- R80: a RELEASE of an output that is not INHIBITED with mode OFF leaves the record stated. -/
theorem releaseRecord_eq {e : OutputEntry} {r : OutputRecord} (hmode : r.state = .inhibited → e.mode ≠ .off)
    (zones : Vector ZoneRecord 16) (now : Nat) :
    releaseRecord e zones now r = if r.state = .inhibited then recomputed e zones now r.demand r else r := by
  rw [releaseRecord]
  split
  · next hinhibited =>
    cases hm : e.mode with
    | off => exact absurd hm (hmode hinhibited)
    | level => exact recomputeLevel_eq_recomputed hm zones now r.demand r
    | proportional => exact recomputeProportional_eq_recomputed hm zones now r.demand r
  · rfl

/-- Settles O24. -/
theorem releaseRecomputesTheOutput : Obligations.ReleaseRecomputesTheOutput := by
  unfold Obligations.ReleaseRecomputesTheOutput
  intro dt c s k h hmode
  have htaken := takeRequest_release (s.requestTaken dt k 0x5D [c, 1]) c
  refine (event_request h dt 0x5D (by simp)).trans (congrArg _ ?_)
  cases houtput : outputOf c.toNat with
  | none =>
    rw [houtput] at htaken
    exact answerRequest_unchanged h htaken
  | some o =>
    have hrecord := releaseRecord_eq (hmode o) s.zones (s.now + dt)
    rw [houtput] at htaken
    have hanswer := answerRequest_outputWritten h
      (r := releaseRecord (tget s.active.outputs o) s.zones (s.now + dt) (tget s.outputs o)) htaken
    rw [hrecord] at hanswer
    exact hanswer

end Sys2Proof.Machine
end

section
/-! PROOFS. A request by its characters is the request as one command; and a request that is refused changes nothing
(R171, R176). -/

namespace Sys2Proof.Machine

open Sys2Proof.Stated

/-! ### The characters of a telegram, stored one by one (R88 to R91) -/

/-- R91: a telegram is unfinished until its last character. -/
theorem assembly_telegram_take (addr kind : Byte) {p : List Byte} (hl : p.length ≤ 32) {n : Nat}
    (hn : n < (telegram addr kind p).length) : assembly ((telegram addr kind p).take n) = .unfinished := by
  have hlength : ((telegram addr kind p).take n).length = n := List.length_take_of_le hn.le
  by_cases hshort : n < 3
  · rw [assembly, hlength, if_pos hshort]
  · have hlengthOf : lengthOf ((telegram addr kind p).take n) = p.length := by
      rw [← telegram_lengthOf addr kind (p := p) (by omega), lengthOf, lengthOf, charAt, charAt, List.getD_eq_getElem?_getD,
        List.getD_eq_getElem?_getD, List.getElem?_take_of_lt (by omega)]
    rw [telegram_length] at hn
    rw [assembly, hlength, hlengthOf, if_neg hshort, if_neg (by omega), if_pos hn]

/-- R88, R139: the trunk port as it is while it receives a telegram of which some characters have come, the last one
now. -/
def State.collecting (s : State) (k : SlotNo) (t : List Byte) : State :=
  (s.touchTrunk.fillSlot k t).setTrunk (.receiving k (s.now + 3 * s.trunkChar))

/-- R139: a mark character to the own address opens a telegram in the slot granted. -/
theorem trunkMark_own {s : State} {k : SlotNo} (hport : s.trunkPort = .listening) (hgrant : s.grant = some k) :
    s.trunkMark (downChar s.ownAddr) true = s.collecting k [downChar s.ownAddr] := by
  simp only [State.trunkMark, hport, if_true]
  exact offerTrunk_own (s := s.touchTrunk) hgrant

/-- R88: one character more, ending at the same moment, in the slot. -/
theorem collecting_fillSlot (s : State) (k : SlotNo) (t : List Byte) (c : Byte) :
    (s.collecting k t).fillSlot k (t ++ [c]) = s.collecting k (t ++ [c]) :=
  congrArg (·.setTrunk (.receiving k (s.now + 3 * s.trunkChar)))
    (fillSlot_fillSlot (s := s.touchTrunk) k (t := t) (u := t ++ [c]) (by simp))

/-- R88, R91: a character that leaves the telegram unfinished is stored. -/
theorem trunkData_unfinished (s : State) (k : SlotNo) {t : List Byte} {c : Byte}
    (hassembly : assembly (t ++ [c]) = .unfinished) :
    (s.collecting k t).trunkData c true = s.collecting k (t ++ [c]) := by
  have hslot : (s.collecting k t).slot k = t := fillSlot_slot s.touchTrunk k t
  change (s.collecting k t).storeTrunkChar k c = _
  simp only [State.storeTrunkChar, hslot, hassembly, collecting_fillSlot]
  rfl

/-- R91, R141: the character that completes the telegram. -/
theorem trunkData_complete (s : State) (k : SlotNo) {t : List Byte} {c : Byte}
    (hassembly : assembly (t ++ [c]) = .complete) :
    (s.collecting k t).trunkData c true = (s.collecting k (t ++ [c])).completeTrunk k := by
  have hslot : (s.collecting k t).slot k = t := fillSlot_slot s.touchTrunk k t
  change (s.collecting k t).storeTrunkChar k c = _
  simp only [State.storeTrunkChar, hslot, hassembly, collecting_fillSlot]

theorem exec_trunkDataCharacter {s : State} (hheld : s.held = false) (c : Byte) :
    exec (.trunkDataCharacter 0 c true) s = .next (s.trunkData c true) :=
  event_running hheld 0 fun s => s.trunkData c true

/-- R88 to R91: the characters of a telegram that are still to come, at one moment, complete it. -/
theorem runAll_collecting {s : State} (hheld : s.held = false) (k : SlotNo) {whole : List Byte}
    (hparts : ∀ n < whole.length, assembly (whole.take n) = .unfinished) (hwhole : assembly whole = .complete) :
    ∀ (rest t : List Byte), t ++ rest = whole → rest ≠ [] →
      runAll (s.collecting k t) (rest.map fun c => .trunkDataCharacter 0 c true) =
        .next ((s.collecting k whole).completeTrunk k)
  | [], _, _, hsome => absurd rfl hsome
  | [c], t, hsplit, _ => by
    have hstep := exec_trunkDataCharacter (s := s.collecting k t) hheld c
    rw [trunkData_complete s k (hsplit ▸ hwhole), hsplit] at hstep
    simp only [List.map_cons, List.map_nil, runAll, hstep]
  | c :: d :: rest, t, hsplit, _ => by
    have hnext : (t ++ [c]) ++ d :: rest = whole := by simpa using hsplit
    have hpart : whole.take (t ++ [c]).length = t ++ [c] := by rw [← hnext, List.take_left]
    have hlt : (t ++ [c]).length < whole.length := by simp [← hnext]
    have hstep := exec_trunkDataCharacter (s := s.collecting k t) hheld c
    rw [trunkData_unfinished s k (hpart ▸ hparts _ hlt)] at hstep
    rw [List.map_cons, runAll, hstep]
    exact runAll_collecting hheld k hparts hwhole (d :: rest) (t ++ [c]) hnext (List.cons_ne_nil d rest)

/-- R101, R107, R141: a request by its characters that finds the port LISTENING and is granted a slot is answered in that
slot, as the request in one command is. -/
theorem runAll_asCharacters {s : State} {k : SlotNo} (h : ready s k) (dt : Nat) (kind : Byte) {p : List Byte}
    (hl : p.length ≤ 32) :
    runAll s (asCharacters s dt kind p) = .next ((s.requestTaken dt k kind p).answerRequest k kind p) := by
  obtain ⟨hheld, hport, hgrant⟩ := h
  have hmark : exec (.trunkMarkCharacter dt (downChar s.ownAddr) true) s =
      .next ((s.elapse dt).collecting k [downChar s.ownAddr]) := by
    refine (event_running hheld dt fun t => t.trunkMark (downChar s.ownAddr) true).trans (congrArg _ ?_)
    exact trunkMark_own (s := s.elapse dt) hport hgrant
  have hrest := runAll_collecting (s := s.elapse dt) hheld k
    (fun n hn => assembly_telegram_take (downChar s.ownAddr) kind hl hn) (telegram_complete _ kind hl)
    (telegram (downChar s.ownAddr) kind p).tail [downChar s.ownAddr] rfl (by simp [telegram, withCheck])
  rw [asCharacters, runAll, hmark]
  exact hrest.trans (congrArg _ (completeTrunk_own hl (fillSlot_slot (s.elapse dt).touchTrunk k _)))

/-! ### The refusals (R171, R176) -/

/-- TABLE 5-10: every request is the arrival of its kind and payload. -/
theorem exec_request {c : Instr} {dt : Nat} {kind : Byte} {p : List Byte} (h : requestOf c = some (dt, kind, p))
    (s : State) : exec c s = event dt (fun s => s.requestArrives kind p) s := by
  cases c with
  | identify | readStatus | readZone | readPod | readEntry | writePodEntry | writeZoneEntry | writeOutputEntry
  | writeSweepList | writeFieldSettings | copyActive | swap | sweepControlStart | sweepControlStop
  | sweepControlResume | outputControlInhibit | outputControlRelease | store | readCounters | fieldRestart | badKind =>
    cases h
    rfl
  | _ => cases h

/-- R171: a kind outside 0x50..0x60. -/
theorem takeRequest_badKind {kind : Byte} (h : kind.toNat < 0x50 ∨ 0x60 < kind.toNat) (s : State) (p : List Byte) :
    s.takeRequest kind p = (s, [2]) := by
  have hkind : isRequestKind kind = false := by
    rw [isRequestKind, Bool.and_eq_false_iff, decide_eq_false_iff_not, decide_eq_false_iff_not]
    omega
  rw [State.takeRequest, hkind]
  rfl

/-- TABLE 5-10: a wrong length belongs to a management kind, and the kind does not allow it. -/
theorem wrongLength_not_allowed {kind : Byte} {n : Nat} (h : wrongLength kind n) :
    isRequestKind kind = true ∧ lengthAllowed kind n = false := by
  rcases h with ⟨rfl | rfl | rfl | rfl | rfl | rfl, hn⟩ | ⟨rfl | rfl | rfl | rfl, hn⟩ | ⟨rfl, hn⟩ | ⟨rfl, hn⟩ | ⟨rfl, hn⟩ |
    ⟨rfl, hn⟩ | ⟨rfl, hn⟩ | ⟨rfl, hn⟩ | ⟨rfl, hn⟩ <;> simp [isRequestKind, lengthAllowed] <;> omega

/-- R171: a length that is not the one of its kind. -/
theorem takeRequest_badLength {kind : Byte} {p : List Byte} (h : wrongLength kind p.length) (s : State) :
    s.takeRequest kind p = (s, [3]) := by
  obtain ⟨hkind, hlength⟩ := wrongLength_not_allowed h
  rw [State.takeRequest, hkind, hlength]
  rfl

/-- R176: a SWEEP-CONTROL that is neither START, STOP nor RESUME. -/
theorem takeRequest_unknownSweepCode {code : Byte} (h : 2 < code.toNat) (s : State) :
    s.takeRequest 0x5C [code] = (s, [4]) := by
  change s.controlSweep [code] = _
  rw [State.controlSweep, show charAt [code] 0 = code from rfl]
  split
  · omega
  · omega
  · omega
  · rfl

/-- R82, R176: an OUTPUT-CONTROL that is neither INHIBIT nor RELEASE, of whatever output. -/
theorem takeRequest_unknownOutputCode {code : Byte} (h : 1 < code.toNat) (s : State) (output : Byte) :
    s.takeRequest 0x5D [output, code] = (s, [4]) := by
  change s.controlOutput [output, code] = _
  rw [State.controlOutput, show charAt [output, code] 1 = code from rfl]
  split
  · omega
  · omega
  · rfl

/-- Settles O31: each refusal, sent as one command and by its characters. -/
theorem refusedRequestChangesNothing : Obligations.RefusedRequestChangesNothing := by
  unfold Obligations.RefusedRequestChangesNothing
  intro dt kind p s k hl h
  have hcommand : ∀ {c : Instr} {payload : List Byte}, requestOf c = some (dt, kind, p) →
      (∀ u : State, u.takeRequest kind p = (u, payload)) → exec c s = .next (answered s dt k kind p payload) :=
    fun hc htaken => (exec_request hc s).trans
      ((event_request h dt kind hl).trans (congrArg _ (answerRequest_unchanged h (htaken _))))
  have hcharacters : ∀ {kind : Byte} {p payload : List Byte}, p.length ≤ 32 →
      (∀ u : State, u.takeRequest kind p = (u, payload)) →
      runAll s (asCharacters s dt kind p) = .next (answered s dt k kind p payload) :=
    fun hl htaken => (runAll_asCharacters h dt _ hl).trans (congrArg _ (answerRequest_unchanged h (htaken _)))
  exact
    ⟨fun c hc => ⟨fun hkind => hcommand hc fun u => takeRequest_badKind hkind u p,
        fun hlength => hcommand hc (takeRequest_badLength hlength)⟩,
      fun hkind => hcharacters hl fun u => takeRequest_badKind hkind u p,
      fun hlength => hcharacters hl (takeRequest_badLength hlength),
      fun code hcode => hcharacters (by simp) (takeRequest_unknownSweepCode hcode),
      fun output code hcode => hcharacters (by simp) fun u => takeRequest_unknownOutputCode hcode u output⟩

end Sys2Proof.Machine
end

section
/-! PROOFS. Full reset (R114, R184, R185), and a request that does not find the line and a slot (R112, R139,
R140, R143). -/

namespace Sys2Proof.Machine

/-- Settles O4: the reset names every field it changes, and without a slot in a port or a queue none is occupied. -/
theorem fullResetReleasesThePins : Obligations.FullResetReleasesThePins := by
  unfold Obligations.FullResetReleasesThePins
  intro dt s
  have hpins : ∀ o, (tget (s.elapse dt).enterReset.outputs o).pin = false := fun o =>
    congrArg OutputRecord.pin (tget_tmap s.outputs _ o)
  exact ⟨(s.elapse dt).enterReset, rfl, rfl, hpins, rfl, rfl, rfl⟩

/-- Settles O30: the three ways a request does not find the line and a slot, each by the arrival's law. -/
theorem requestNeedsTheLineAndASlot : Obligations.RequestNeedsTheLineAndASlot := by
  unfold Obligations.RequestNeedsTheLineAndASlot
  intro c dt kind p s hc hheld
  have harrives : ∀ u : State, u.held = false → exec c u = .next ((u.elapse dt).requestArrives kind p) :=
    fun u hu => (exec_request hc u).trans (event_running hu dt _)
  refine ⟨fun hport hgrant => ?_, fun k e hport => ?_, fun k g hport => ?_⟩
  · rw [harrives s hheld, requestArrives_noSlot (s := s.elapse dt) hport hgrant]
    rfl
  · rw [harrives s hheld, requestArrives_transmitting (s := s.elapse dt) hport]
    rfl
  · rw [harrives s hheld, harrives _ (by exact hheld), requestArrives_receiving (s := s.elapse dt) hport]
    rfl

end Sys2Proof.Machine
end

section
/-! PROOFS. The slot conservation law (R104): how each block moves slots between the places, and that every step keeps
each slot in exactly one. -/

namespace Sys2Proof.Machine

open List

/-! ### The law and the places (R104, TABLE 6-1) -/

/-- TABLE 6-1: in how many places a slot stands, place by place. -/
theorem count_occupied (s : State) (j : SlotNo) :
    s.occupied.count j = s.trunkPort.rxSlot.toList.count j + s.downQ.count j + s.fieldPort.txnSlot.toList.count j +
      s.upQ.count j + s.trunkPort.txSlot.toList.count j := by
  simp only [State.occupied, count_append]

/-- A slot that stands in no more places than before, whatever the slot: moves and returns to FREE alone. -/
theorem subperm_of_count_le {s t : State} (h : ∀ j, t.occupied.count j ≤ s.occupied.count j) :
    t.occupied <+~ s.occupied :=
  subperm_ext_iff.2 fun j _ => h j

/-- R104: moves and returns to FREE keep the law. -/
theorem slotsConserved_of_subperm {s t : State} (hs : s.slotsConserved) (hmoves : t.occupied <+~ s.occupied) :
    t.slotsConserved :=
  nodup_iff_count_le_one.2 fun j => (hmoves.count_le j).trans (nodup_iff_count_le_one.1 hs j)

/-- R108: a slot that joins DOWN-QUEUE stands in one place more. -/
theorem count_joinDown (s : State) (k j : SlotNo) :
    (s.joinDown k).occupied.count j = s.occupied.count j + [k].count j := by
  simp only [count_occupied, joinDown_trunkPort, joinDown_downQ, joinDown_upQ, joinDown_fieldPort, count_append]
  omega

/-- R108: and so does one that joins UP-QUEUE. -/
theorem count_joinUp (s : State) (k j : SlotNo) :
    (s.joinUp k).occupied.count j = s.occupied.count j + [k].count j := by
  simp only [count_occupied, joinUp_trunkPort, joinUp_downQ, joinUp_upQ, joinUp_fieldPort, count_append]
  omega

/-- R105: a grant keeps the law, since the slot granted was FREE. -/
theorem slotsConserved_of_grant {s t : State} {k : SlotNo} (hs : s.slotsConserved) (hgrant : s.grant = some k)
    (hmoves : ∀ j, t.occupied.count j ≤ [k].count j + s.occupied.count j) : t.slotsConserved := by
  have hnodup : (k :: s.occupied).Nodup := nodup_cons.2 ⟨grant_free hgrant, hs⟩
  refine nodup_iff_count_le_one.2 fun j => ?_
  calc t.occupied.count j ≤ [k].count j + s.occupied.count j := hmoves j
    _ = (k :: s.occupied).count j := count_append.symm
    _ ≤ 1 := nodup_iff_count_le_one.1 hnodup j

/-- R104: under the law each slot is FREE or stands in one other place, and not both. -/
theorem count_free_or_occupied {s : State} (hs : s.slotsConserved) (k : SlotNo) :
    (s.freeSlots ++ s.occupied).count k = 1 := by
  have hfree : s.freeSlots.Nodup := (nodup_finRange 16).filter _
  rw [count_append]
  by_cases hk : k ∈ s.occupied
  · rw [count_eq_zero_of_not_mem (fun hmem => mem_freeSlots.1 hmem hk), count_eq_one_of_mem hs hk]
  · rw [count_eq_one_of_mem hfree (mem_freeSlots.2 hk), count_eq_zero_of_not_mem hk]

/-! ### What leaves the places, but for a transaction slot that returns to FREE -/

/-- The trunk port and both queues stay as they are, and no slot comes into FIELD-TXN. -/
structure KeepsQueues (s t : State) : Prop where
  trunkPort : t.trunkPort = s.trunkPort
  downQ : t.downQ = s.downQ
  upQ : t.upQ = s.upQ
  txn : t.fieldPort.txnSlot.toList <+ s.fieldPort.txnSlot.toList

namespace KeepsQueues

variable {s t u : State}

/-- What leaves the field port too. -/
theorem of_eq (htrunk : t.trunkPort = s.trunkPort) (hdown : t.downQ = s.downQ) (hup : t.upQ = s.upQ)
    (hfield : t.fieldPort = s.fieldPort) : KeepsQueues s t :=
  ⟨htrunk, hdown, hup, hfield ▸ Sublist.refl _⟩

theorem refl (s : State) : KeepsQueues s s := of_eq rfl rfl rfl rfl

theorem trans (h : KeepsQueues s t) (h' : KeepsQueues t u) : KeepsQueues s u :=
  ⟨h'.trunkPort.trans h.trunkPort, h'.downQ.trans h.downQ, h'.upQ.trans h.upQ, h'.txn.trans h.txn⟩

theorem subperm (h : KeepsQueues s t) : t.occupied <+~ s.occupied := subperm_of_count_le fun j => by
  have htxn := h.txn.count_le j
  rw [count_occupied, count_occupied, h.trunkPort, h.downQ, h.upQ]
  omega

theorem slotsConserved (h : KeepsQueues s t) (hs : s.slotsConserved) : t.slotsConserved :=
  slotsConserved_of_subperm hs h.subperm

end KeepsQueues

theorem count_keepsQueues (s : State) (c : Counter) : KeepsQueues s (s.count c) := .of_eq rfl rfl rfl rfl

theorem fillSlot_keepsQueues (s : State) (k : SlotNo) (t : List Byte) : KeepsQueues s (s.fillSlot k t) :=
  .of_eq rfl rfl rfl rfl

theorem touchTrunk_keepsQueues (s : State) : KeepsQueues s s.touchTrunk := .of_eq rfl rfl rfl rfl

theorem touchField_keepsQueues (s : State) : KeepsQueues s s.touchField := .of_eq rfl rfl rfl rfl

theorem setSweep_keepsQueues (s : State) (w : SweepRecord) : KeepsQueues s (s.setSweep w) := .of_eq rfl rfl rfl rfl

theorem setPod_keepsQueues (s : State) (i : PodIx) (r : PodRecord) : KeepsQueues s (s.setPod i r) :=
  .of_eq rfl rfl rfl rfl

theorem setShadow_keepsQueues (s : State) (b : Bank) : KeepsQueues s (s.setShadow b) :=
  .of_eq (setShadow_trunkPort s b) (setShadow_downQ s b) (setShadow_upQ s b) (setShadow_fieldPort s b)

/-! ### Samples, zones, outputs, sweep and store hold no slot -/

theorem putAndHandOver_keepsQueues (s : State) (z : ZoneIx) (r : ZoneRecord) : KeepsQueues s (s.putAndHandOver z r) :=
  .of_eq (putAndHandOver_trunkPort s z r) (putAndHandOver_downQ s z r) (putAndHandOver_upQ s z r)
    (putAndHandOver_fieldPort s z r)

theorem evaluatePodZone_keepsQueues (s : State) (i : PodIx) : KeepsQueues s (s.evaluatePodZone i) :=
  .of_eq (evaluatePodZone_trunkPort s i) (evaluatePodZone_downQ s i) (evaluatePodZone_upQ s i)
    (evaluatePodZone_fieldPort s i)

theorem takeReply_keepsQueues (s : State) (i : PodIx) (p : List Byte) : KeepsQueues s (s.takeReply i p) :=
  .of_eq (takeReply_trunkPort s i p) (takeReply_downQ s i p) (takeReply_upQ s i p) (takeReply_fieldPort s i p)

theorem staleExpiry_keepsQueues (s : State) (i : PodIx) : KeepsQueues s (s.staleExpiry i) := by
  unfold State.staleExpiry
  split
  · exact (setPod_keepsQueues s i _).trans (evaluatePodZone_keepsQueues _ i)
  · exact .refl s

theorem zoneExpiry_keepsQueues (s : State) (z : ZoneIx) : KeepsQueues s (s.zoneExpiry z) := by
  unfold State.zoneExpiry
  split
  · split
    · exact putAndHandOver_keepsQueues s z _
    · exact .refl s
  · exact .refl s

theorem onTimeExpiry_keepsQueues (s : State) (o : OutIx) : KeepsQueues s (s.onTimeExpiry o) := by
  unfold State.onTimeExpiry
  split <;> exact .of_eq rfl rfl rfl rfl

theorem periodExpiry_keepsQueues (s : State) (o : OutIx) : KeepsQueues s (s.periodExpiry o) := by
  unfold State.periodExpiry
  split <;> exact .of_eq rfl rfl rfl rfl

theorem delayExpiry_keepsQueues (s : State) : KeepsQueues s s.delayExpiry := by
  unfold State.delayExpiry
  split <;> exact .of_eq rfl rfl rfl rfl

theorem paceExpiry_keepsQueues (s : State) : KeepsQueues s s.paceExpiry := by
  unfold State.paceExpiry
  split <;> exact .of_eq rfl rfl rfl rfl

theorem storeExpiry_keepsQueues (s : State) (cellsMatch : Bool) : KeepsQueues s (s.storeExpiry cellsMatch) := by
  unfold State.storeExpiry
  split
  · split <;> exact .of_eq rfl rfl rfl rfl
  · exact .refl s

/-! ### Reset and start-up (R114, R186) -/

theorem enterReset_slotsConserved (s : State) : s.enterReset.slotsConserved := nodup_nil

theorem setUp_slotsConserved (s : State) (trate : BitVec 2) (addr : BitVec 6) :
    (s.setUp trate addr).slotsConserved := by
  rw [State.setUp, automaticStart_eq rfl]
  exact nodup_nil

/-! ### Management requests (R114, R171) -/

/-- R134: no slot stays in FIELD-TXN when the transaction is abandoned. -/
theorem abandonedPort_txnSlot (now : Nat) (p : FieldPort) : (abandonedPort now p).txnSlot = none := by
  cases p with
  | idle => rfl
  | busy t phase => cases phase <;> rfl

/-- R168: a swap moves no slot. -/
theorem flip_keepsQueues (s : State) : KeepsQueues s s.flip := by
  obtain ⟨_, _, _, _, _, _, hflip⟩ := flip_eq s
  rw [hflip]
  exact .of_eq rfl rfl rfl rfl

/-- R114: a FIELD-RESTART frees the slot in FIELD-TXN, and no other slot moves. -/
theorem restartField_keepsQueues (s : State) : KeepsQueues s s.restartField := by
  obtain ⟨_, _, _, _, _, hrestart⟩ := restartField_eq s
  rw [hrestart]
  exact ⟨rfl, rfl, rfl, abandonedPort_txnSlot s.now s.fieldPort ▸ nil_sublist _⟩

/-- R114: of the requests FIELD-RESTART alone bears on the places; the request's own slot is not moved here. -/
theorem Requested.keepsQueues {s t : State} (hrequest : Requested s t) : KeepsQueues s t := by
  cases hrequest with
  | unchanged | statusRead | sweepStopped | inhibited | released | storeBegun | countersCleared =>
    exact .of_eq rfl rfl rfl rfl
  | podWritten | zoneWritten | outputWritten | listWritten | fieldWritten | copied => exact setShadow_keepsQueues s _
  | swapped => exact flip_keepsQueues s
  | sweepStarted hstart =>
    obtain ⟨w, rfl⟩ := sweepStart_eq_setSweep hstart
    exact setSweep_keepsQueues s w
  | sweepResumed hresume =>
    obtain ⟨w, rfl⟩ := sweepResume_eq_setSweep hresume
    exact setSweep_keepsQueues s w
  | fieldRestarted => exact restartField_keepsQueues s

/-! ### The trunk port (R106, R107, R111) -/

/-- R106, R111: the slot in TRUNK-RX or TRUNK-TX returns to FREE. -/
theorem setTrunk_listening_subperm (s : State) : (s.setTrunk .listening).occupied <+~ s.occupied :=
  subperm_of_count_le fun j => by
    simp only [count_occupied, setTrunk_trunkPort, setTrunk_downQ, setTrunk_upQ, setTrunk_fieldPort, TrunkPort.rxSlot,
      TrunkPort.txSlot, Option.toList_none, count_nil]
    omega

/-- R106: the same where the telegram is abandoned, and so counted. -/
theorem abandonTrunk_subperm (s : State) : s.abandonTrunk.occupied <+~ s.occupied :=
  (setTrunk_listening_subperm _).trans (count_keepsQueues s _).subperm

/-- R107: a slot that leaves TRUNK-RX stands in one place less, where the rest of its event leaves the queues. -/
theorem count_rx_left {s u : State} {k : SlotNo} {gap : Nat} (hport : s.trunkPort = .receiving k gap)
    (hkeeps : KeepsQueues s u) (j : SlotNo) :
    (u.setTrunk .listening).occupied.count j + [k].count j ≤ s.occupied.count j := by
  have htxn := hkeeps.txn.count_le j
  simp only [count_occupied, setTrunk_trunkPort, setTrunk_downQ, setTrunk_upQ, setTrunk_fieldPort, hkeeps.downQ,
    hkeeps.upQ, hport, TrunkPort.rxSlot, TrunkPort.txSlot, Option.toList_none, Option.toList_some, count_nil]
  omega

/-- R107: a good request moves from TRUNK-RX to the tail of UP-QUEUE. -/
theorem rx_joinUp_subperm {s u : State} {k : SlotNo} {gap : Nat} (hport : s.trunkPort = .receiving k gap)
    (hkeeps : KeepsQueues s u) : ((u.setTrunk .listening).joinUp k).occupied <+~ s.occupied :=
  subperm_of_count_le fun j => (count_joinUp _ k j).trans_le (count_rx_left hport hkeeps j)

/-- R107: a good telegram for the field line moves from TRUNK-RX to the tail of DOWN-QUEUE. -/
theorem rx_joinDown_subperm {s u : State} {k : SlotNo} {gap : Nat} (hport : s.trunkPort = .receiving k gap)
    (hkeeps : KeepsQueues s u) : ((u.setTrunk .listening).joinDown k).occupied <+~ s.occupied :=
  subperm_of_count_le fun j => (count_joinDown _ k j).trans_le (count_rx_left hport hkeeps j)

/-- R107: a request is answered in its slot. -/
theorem answerRequest_subperm {s : State} {k : SlotNo} {gap : Nat} (hport : s.trunkPort = .receiving k gap)
    (kind : Byte) (p : List Byte) : (s.answerRequest k kind p).occupied <+~ s.occupied :=
  rx_joinUp_subperm hport ((takeRequest_requested s kind p).keepsQueues.trans (fillSlot_keepsQueues _ k _))

/-- R106, R107: a complete telegram leaves TRUNK-RX for UP-QUEUE, DOWN-QUEUE or FREE. -/
theorem completeTrunk_subperm {s : State} {k : SlotNo} {gap : Nat} (hport : s.trunkPort = .receiving k gap) :
    (s.completeTrunk k).occupied <+~ s.occupied := by
  simp only [State.completeTrunk]
  split
  · split
    · exact (answerRequest_subperm (s := s.count .trunkGood) hport _ _).trans (count_keepsQueues s _).subperm
    · exact rx_joinDown_subperm hport (count_keepsQueues s _)
  · exact (setTrunk_listening_subperm _).trans (count_keepsQueues s _).subperm

/-- R106: a telegram that opens is granted a FREE slot, or is declined and moves none. -/
theorem offerTrunk_slotsConserved {s : State} (hs : s.slotsConserved) (c : Byte) : (s.offerTrunk c).slotsConserved := by
  unfold State.offerTrunk
  split
  · exact hs
  · split
    · exact hs
    · next k hgrant =>
      refine slotsConserved_of_grant hs hgrant fun j => ?_
      simp only [count_occupied, setTrunk_trunkPort, setTrunk_downQ, setTrunk_upQ, setTrunk_fieldPort, fillSlot_downQ,
        fillSlot_upQ, fillSlot_fieldPort, TrunkPort.rxSlot, TrunkPort.txSlot, Option.toList_none, Option.toList_some,
        count_nil]
      omega

/-- R106: an interrupted telegram returns its slot to FREE before the new one claims a slot. -/
theorem trunkMark_slotsConserved {s : State} (hs : s.slotsConserved) (c : Byte) (stop : Bool) :
    (s.trunkMark c stop).slotsConserved := by
  have htouched := (touchTrunk_keepsQueues s).slotsConserved hs
  have habandoned := slotsConserved_of_subperm htouched (abandonTrunk_subperm _)
  unfold State.trunkMark
  split
  · split
    · exact offerTrunk_slotsConserved htouched c
    · exact htouched
  · split
    · exact offerTrunk_slotsConserved habandoned c
    · exact habandoned
  · exact hs

/-- R88: the slot of a telegram in progress stays in TRUNK-RX. -/
theorem setTrunk_receiving_occupied {s : State} {k : SlotNo} {gap : Nat} (hport : s.trunkPort = .receiving k gap)
    (gap' : Nat) : (s.setTrunk (.receiving k gap')).occupied = s.occupied := by
  simp only [State.occupied, hport]
  rfl

theorem storeTrunkChar_subperm {s : State} {k : SlotNo} {gap : Nat} (hport : s.trunkPort = .receiving k gap)
    (c : Byte) : (s.storeTrunkChar k c).occupied <+~ s.occupied := by
  have hstored := (fillSlot_keepsQueues s k (s.slot k ++ [c])).subperm
  simp only [State.storeTrunkChar]
  split
  · exact (setTrunk_receiving_occupied (s := s.fillSlot k _) hport _) ▸ hstored
  · exact (abandonTrunk_subperm _).trans hstored
  · exact (completeTrunk_subperm (s := s.fillSlot k _) hport).trans hstored

theorem trunkData_subperm (s : State) (c : Byte) (stop : Bool) : (s.trunkData c stop).occupied <+~ s.occupied := by
  have htouched := (touchTrunk_keepsQueues s).subperm
  unfold State.trunkData
  split
  · exact htouched
  · next hport =>
    split
    · exact (storeTrunkChar_subperm (s := s.touchTrunk) hport c).trans htouched
    · exact (abandonTrunk_subperm _).trans htouched
  · exact Subperm.refl _

theorem trunkGap_subperm (s : State) : s.trunkGap.occupied <+~ s.occupied := by
  unfold State.trunkGap
  split
  · split
    · exact abandonTrunk_subperm s
    · exact Subperm.refl _
  · exact Subperm.refl _

/-- R111: the head of UP-QUEUE moves to TRUNK-TX. -/
theorem startTransmission_subperm (s : State) : s.startTransmission.occupied <+~ s.occupied := by
  unfold State.startTransmission
  split
  · next k rest hport hup =>
    split
    · refine subperm_of_count_le fun j => ?_
      rw [count_occupied s, hport, hup, ← singleton_append, count_append]
      simp only [count_occupied, TrunkPort.rxSlot, TrunkPort.txSlot, Option.toList_none, Option.toList_some, count_nil]
      omega
    · exact Subperm.refl _
  · exact Subperm.refl _

theorem endTransmission_subperm (s : State) : s.endTransmission.occupied <+~ s.occupied := by
  unfold State.endTransmission
  split
  · split
    · exact (setTrunk_listening_subperm _).trans (touchTrunk_keepsQueues s).subperm
    · exact Subperm.refl _
  · exact Subperm.refl _

/-- R105, R107: a request's slot is granted at its mark character and moved at its completion. -/
theorem requestArrives_slotsConserved {s : State} (hs : s.slotsConserved) (kind : Byte) (p : List Byte) :
    (s.requestArrives kind p).slotsConserved := by
  have hmark := trunkMark_slotsConserved hs (downChar s.ownAddr) true
  simp only [State.requestArrives]
  split
  · next k gap hport =>
    split
    · exact slotsConserved_of_subperm ((fillSlot_keepsQueues _ k _).slotsConserved hmark) (abandonTrunk_subperm _)
    · exact slotsConserved_of_subperm ((fillSlot_keepsQueues _ k _).slotsConserved hmark)
        (completeTrunk_subperm (s := State.fillSlot _ _ _) hport)
  · exact hmark

/-! ### The field port (R109, R110) -/

/-- R110: the port keeps the transaction slot, or lets it return to FREE. -/
theorem setField_keepsQueues {s : State} {p : FieldPort} (htxn : p.txnSlot.toList <+ s.fieldPort.txnSlot.toList) :
    KeepsQueues s (s.setField p) :=
  ⟨rfl, rfl, rfl, htxn⟩

/-- R110: in GUARD no slot is in FIELD-TXN. -/
theorem enterGuard_txnSlot (s : State) (t : Txn) (o : TxnOutcome) : (s.enterGuard t o).fieldPort.txnSlot = none := rfl

/-- TABLE 6-3: a transaction that sends nothing upward returns its slot to FREE. -/
theorem enterGuard_keepsQueues (s : State) (t : Txn) (o : TxnOutcome) : KeepsQueues s (s.enterGuard t o) :=
  setField_keepsQueues (nil_sublist _)

/-- R110: a slot that leaves FIELD-TXN stands in one place less, where the rest of its event leaves the queues. -/
theorem count_txn_left {s u : State} {k : SlotNo} (hslot : s.fieldPort.txnSlot = some k) (hkeeps : KeepsQueues s u)
    (t : Txn) (o : TxnOutcome) (j : SlotNo) :
    (u.enterGuard t o).occupied.count j + [k].count j ≤ s.occupied.count j := by
  simp only [count_occupied, enterGuard_trunkPort, enterGuard_downQ, enterGuard_upQ, enterGuard_txnSlot,
    hkeeps.trunkPort, hkeeps.downQ, hkeeps.upQ, hslot, Option.toList_none, Option.toList_some, count_nil]
  omega

/-- TABLE 6-3: a transaction with a forwarded or held reply moves its slot to the tail of UP-QUEUE. -/
theorem txn_joinUp_subperm {s u : State} {k : SlotNo} (hslot : s.fieldPort.txnSlot = some k) (hkeeps : KeepsQueues s u)
    (t : Txn) (o : TxnOutcome) : ((u.joinUp k).enterGuard t o).occupied <+~ s.occupied :=
  have hcommute : (u.joinUp k).enterGuard t o = (u.enterGuard t o).joinUp k := rfl
  subperm_of_count_le fun j => hcommute ▸ (count_joinUp _ k j).trans_le (count_txn_left hslot hkeeps t o j)

/-- R99, R128: a held reply is built in the transaction slot, which joins UP-QUEUE. -/
theorem sendHeld_subperm {s u : State} {k : SlotNo} (hslot : s.fieldPort.txnSlot = some k) (hkeeps : KeepsQueues s u)
    (i : PodIx) (stored : List Byte) (t : Txn) (o : TxnOutcome) :
    ((u.sendHeld k i stored).enterGuard t o).occupied <+~ s.occupied := by
  simp only [State.sendHeld]
  split <;> exact txn_joinUp_subperm hslot (hkeeps.trans (.of_eq rfl rfl rfl rfl)) t o

/-- R110, R127, R128: at a miss the slot joins UP-QUEUE with a held reply, or returns to FREE. -/
theorem missTxn_subperm {s : State} {k : SlotNo} (hslot : s.fieldPort.txnSlot = some k) (t : Txn) :
    (s.missTxn t k).occupied <+~ s.occupied := by
  have hcounted : KeepsQueues s (match podOf t.target.toNat with
      | some i => (s.count .fieldMisses).countMiss i
      | none => s.count .fieldMisses) := by
    split <;> exact .of_eq rfl rfl rfl rfl
  simp only [State.missTxn]
  split
  · exact sendHeld_subperm hslot hcounted _ _ t _
  · exact (hcounted.trans (enterGuard_keepsQueues _ t _)).subperm

theorem badReply_subperm {s : State} {k : SlotNo} (hslot : s.fieldPort.txnSlot = some k) (t : Txn) :
    (s.badReply t k).occupied <+~ s.occupied :=
  (missTxn_subperm (s := s.count .fieldBad) hslot t).trans (count_keepsQueues s _).subperm

theorem forwardSample_keepsQueues (s : State) (k : SlotNo) (i : PodIx) (reply : List Byte) :
    KeepsQueues s (s.forwardSample k i reply) :=
  .of_eq (forwardSample_trunkPort s k i reply) (forwardSample_downQ s k i reply) (forwardSample_upQ s k i reply)
    (forwardSample_fieldPort s k i reply)

/-- R110, TABLE 6-3: a good reply to the head-end joins UP-QUEUE in its slot, and one to the sweep returns it to FREE. -/
theorem goodReply_subperm {s : State} {k : SlotNo} (hslot : s.fieldPort.txnSlot = some k) (t : Txn) :
    (s.goodReply t k).occupied <+~ s.occupied := by
  have hcounted := count_keepsQueues s .fieldReplies
  simp only [State.goodReply]
  split
  · exact txn_joinUp_subperm hslot (hcounted.trans (forwardSample_keepsQueues _ k _ _)) t _
  · exact txn_joinUp_subperm hslot hcounted t _
  · exact ((hcounted.trans (takeReply_keepsQueues _ _ _)).trans (enterGuard_keepsQueues _ t _)).subperm
  · exact (hcounted.trans (enterGuard_keepsQueues _ t _)).subperm

theorem storeReplyChar_subperm {s : State} {k : SlotNo} (hslot : s.fieldPort.txnSlot = some k) (t : Txn) (c : Byte) :
    (s.storeReplyChar t k c).occupied <+~ s.occupied := by
  have hstored := fillSlot_keepsQueues s k (s.slot k ++ [c])
  have hbad := (badReply_subperm (s := s.fillSlot k (s.slot k ++ [c])) hslot t).trans hstored.subperm
  simp only [State.storeReplyChar]
  split
  · exact (hstored.trans (setField_keepsQueues (s := s.fillSlot k _) (hslot ▸ Sublist.refl _))).subperm
  · exact hbad
  · split
    · exact (goodReply_subperm (s := s.fillSlot k _) hslot t).trans hstored.subperm
    · exact hbad

/-- TABLE 7-4: a mark character at most ends a reply as a miss. -/
theorem fieldMark_subperm (s : State) (c : Byte) (stop : Bool) : (s.fieldMark c stop).occupied <+~ s.occupied := by
  have htouched := touchField_keepsQueues s
  unfold State.fieldMark
  split
  · split <;> exact htouched.subperm
  · exact Subperm.refl _
  · next hport =>
    split
    · exact KeepsQueues.subperm ⟨rfl, rfl, rfl, hport ▸ Sublist.refl _⟩
    · exact htouched.subperm
  · next hport =>
    have hbad := fun t => (badReply_subperm (s := s.touchField) (congrArg FieldPort.txnSlot hport) t).trans
      htouched.subperm
    split
    · exact (count_keepsQueues _ _).subperm.trans (hbad _)
    · exact hbad _
  · split <;> exact KeepsQueues.subperm ⟨rfl, rfl, rfl, nil_sublist _⟩

theorem fieldData_subperm (s : State) (c : Byte) (stop : Bool) : (s.fieldData c stop).occupied <+~ s.occupied := by
  have htouched := touchField_keepsQueues s
  unfold State.fieldData
  split
  · exact htouched.subperm
  · exact Subperm.refl _
  · exact htouched.subperm
  · next hport =>
    have hslot : s.touchField.fieldPort.txnSlot = some _ := congrArg FieldPort.txnSlot hport
    split
    · exact (storeReplyChar_subperm hslot _ c).trans htouched.subperm
    · exact (badReply_subperm hslot _).trans htouched.subperm
  · exact KeepsQueues.subperm ⟨rfl, rfl, rfl, nil_sublist _⟩

theorem fieldGap_subperm (s : State) : s.fieldGap.occupied <+~ s.occupied := by
  unfold State.fieldGap
  split
  · next hport =>
    split
    · exact badReply_subperm (congrArg FieldPort.txnSlot hport) _
    · exact Subperm.refl _
  · exact Subperm.refl _

theorem windowExpiry_subperm (s : State) : s.windowExpiry.occupied <+~ s.occupied := by
  unfold State.windowExpiry
  split
  · next hport =>
    split
    · exact missTxn_subperm (congrArg FieldPort.txnSlot hport) _
    · exact Subperm.refl _
  · exact Subperm.refl _

theorem guardExpiry_keepsQueues (s : State) : KeepsQueues s s.guardExpiry := by
  unfold State.guardExpiry
  split
  · split
    · exact setField_keepsQueues (nil_sublist _)
    · exact .refl s
  · exact .refl s

/-- R120: the slot of a request that expects a reply stays in FIELD-TXN; that of any other is FREE. -/
theorem sendingEnd_keepsQueues (s : State) : KeepsQueues s s.sendingEnd := by
  unfold State.sendingEnd
  split
  · next hport =>
    split
    · split
      · split
        · exact ⟨rfl, rfl, rfl, hport ▸ Sublist.refl _⟩
        · exact (touchField_keepsQueues s).trans (enterGuard_keepsQueues _ _ _)
      · exact (touchField_keepsQueues s).trans (enterGuard_keepsQueues _ _ _)
    · exact .refl s
  · exact .refl s

/-- R109: a sweep transaction is granted a FREE slot, which comes into FIELD-TXN. -/
theorem startSweepTxn_slotsConserved {s : State} (hs : s.slotsConserved) : s.startSweepTxn.slotsConserved := by
  unfold State.startSweepTxn
  split
  · next k i _ hgrant _ =>
    split
    · refine slotsConserved_of_grant hs hgrant fun j => ?_
      simp only [count_occupied, State.startSending, setSweep_trunkPort, setSweep_downQ, setSweep_upQ,
        setSweep_fieldPort, setField_trunkPort, setField_downQ, setField_upQ, setField_fieldPort, fillSlot_trunkPort,
        fillSlot_downQ, fillSlot_upQ, FieldPort.txnSlot, Option.toList_some]
      omega
    · exact hs
  · exact hs

/-- R109: the head of DOWN-QUEUE moves to FIELD-TXN. -/
theorem startTxn_slotsConserved {s : State} (hs : s.slotsConserved) : s.startTxn.slotsConserved := by
  unfold State.startTxn
  split
  · split
    · next k rest hdown =>
      refine slotsConserved_of_subperm hs (subperm_of_count_le fun j => ?_)
      rw [count_occupied s, hdown, ← singleton_append, count_append]
      simp only [count_occupied, State.startSending, setField_trunkPort, setField_downQ, setField_upQ,
        setField_fieldPort, FieldPort.txnSlot, Option.toList_some]
      omega
    · exact startSweepTxn_slotsConserved hs
  · exact hs

/-! ### Every step -/

theorem slotsConserved_keptByEffects : KeptByEffects State.slotsConserved where
  queue _ _ hs := hs
  elapse _ _ hs := hs
  enterReset s _ := enterReset_slotsConserved s
  setUp s trate addr _ := setUp_slotsConserved s.enterReset trate addr
  trunkMark _ c stop _ hs := trunkMark_slotsConserved hs c stop
  trunkData s c stop _ hs := slotsConserved_of_subperm hs (trunkData_subperm s c stop)
  trunkGap s _ hs := slotsConserved_of_subperm hs (trunkGap_subperm s)
  startTransmission s _ hs := slotsConserved_of_subperm hs (startTransmission_subperm s)
  endTransmission s _ hs := slotsConserved_of_subperm hs (endTransmission_subperm s)
  startTxn _ _ hs := startTxn_slotsConserved hs
  sendingEnd s _ := (sendingEnd_keepsQueues s).slotsConserved
  fieldMark s c stop _ hs := slotsConserved_of_subperm hs (fieldMark_subperm s c stop)
  fieldData s c stop _ hs := slotsConserved_of_subperm hs (fieldData_subperm s c stop)
  fieldGap s _ hs := slotsConserved_of_subperm hs (fieldGap_subperm s)
  windowExpiry s _ hs := slotsConserved_of_subperm hs (windowExpiry_subperm s)
  guardExpiry s _ := (guardExpiry_keepsQueues s).slotsConserved
  staleExpiry s i _ := (staleExpiry_keepsQueues s i).slotsConserved
  zoneExpiry s z _ := (zoneExpiry_keepsQueues s z).slotsConserved
  onTimeExpiry s o _ := (onTimeExpiry_keepsQueues s o).slotsConserved
  periodExpiry s o _ := (periodExpiry_keepsQueues s o).slotsConserved
  delayExpiry s _ := (delayExpiry_keepsQueues s).slotsConserved
  paceExpiry s _ := (paceExpiry_keepsQueues s).slotsConserved
  storeExpiry s cellsMatch _ := (storeExpiry_keepsQueues s cellsMatch).slotsConserved
  requestArrives _ kind p _ hs := requestArrives_slotsConserved hs kind p

/-- Settles O58: each slot in one place by `count_free_or_occupied`, and the law kept by every effect, so by every step. -/
theorem everyStepConservesSlots : Obligations.EveryStepConservesSlots := by
  unfold Obligations.EveryStepConservesSlots
  exact ⟨fun _ hs => count_free_or_occupied hs,
    fun _ => ⟨Option.length_toList_le, Option.length_toList_le, Option.length_toList_le⟩,
    fun _ _ => slotsConserved_keptByEffects.step⟩

end Sys2Proof.Machine
end

section
/-! PROOFS. The ends of a field transaction (R122 to R129): annotation, a miss with its held reply, and the disposal of
a good reply, each as the statements spell it out. -/

namespace Sys2Proof.Machine

open Sys2Proof.Stated

/-! ### Annotation (R100, R125) -/

theorem annotation_eq (s : State) (i : PodIx) : s.annotation i = annotationBlock s i := by
  rw [State.annotation, annotationBlock]
  cases (s.podEntry i).zone <;> rfl

/-- R31, R100: a miss changes nothing that an annotation reads. -/
theorem annotation_countMiss (s : State) (i : PodIx) : (s.countMiss i).annotation i = s.annotation i := by
  have hdew : (tget (s.countMiss i).pods i).dewPoint = (tget s.pods i).dewPoint := by simp [State.countMiss]
  simp only [State.annotation, hdew]
  rfl

/-! ### The guard (R129) -/

/-- R129: the field port in GUARD, entered at a moment by a transaction that ends with an outcome. -/
def guardPort (now : Nat) (t : Txn) (o : TxnOutcome) : FieldPort :=
  .busy { t with outcome := some o } (.guarding (now + TxnOutcome.guardChars o * BitRate.charTime t.rate))

theorem enterGuard_of_now {s : State} {now : Nat} (h : s.now = now) (t : Txn) (o : TxnOutcome) :
    s.enterGuard t o = s.setField (guardPort now t o) := by
  subst h
  rfl

/-- R129: a guard is 2 character times after a reply or a broadcast, and 4 otherwise. -/
theorem guardTime_eq (t : Txn) :
    guardTime t = (match t.outcome with | some .reply => 2 | some .sent => 2 | _ => 4) * BitRate.charTime t.rate := by
  rw [guardTime]
  rcases t.outcome with _ | (_ | _ | _ | _) <;> rfl

theorem restartGuard_eq (s : State) (t : Txn) :
    s.restartGuard t =
      { s with
          fieldPort := .busy t (.guarding (s.now +
            (match t.outcome with | some .reply => 2 | some .sent => 2 | _ => 4) * BitRate.charTime t.rate)) } := by
  rw [State.restartGuard, guardTime_eq]
  rfl

/-! ### A miss and its held reply (R98, R99, R127, R128) -/

/-- R93: the address of a transaction's pod. -/
theorem ofNat_of_podOf {a : BitVec 7} {i : PodIx} (h : podOf a.toNat = some i) : BitVec.ofNat 7 (i.val + 1) = a := by
  rw [podOf] at h
  split at h
  · next hrange =>
    cases h
    apply BitVec.eq_of_toNat_eq
    simp only [BitVec.toNat_ofNat]
    omega
  · cases h

/-- R128: a held reply is built for the pod that the transaction asked. -/
theorem podOf_of_heldFor {s : State} {t : Txn} {i : PodIx} {stored : List Byte} (h : s.heldFor t = some (i, stored)) :
    podOf t.target.toNat = some i := by
  rw [State.heldFor] at h
  split at h
  · next hpod =>
    split at h
    · obtain ⟨_, _, hheld⟩ := Option.map_eq_some_iff.1 h
      cases hheld
      exact hpod
    · cases h
  · cases h

/-- R98, R99: the payload of a held reply, annotated where the pod's flag asks for it. -/
def State.heldBody (s : State) (i : PodIx) (stored : List Byte) : List Byte :=
  heldPayload s.now (tget s.pods i) stored ++ if (s.podEntry i).annotate then s.annotation i else []

/-- R128: the statements' held reply is the one that the model builds. -/
theorem heldReply_eq (s : State) (t : Txn) :
    heldReply s t = (s.heldFor t).map fun held => s.heldBody held.1 held.2 := by
  rw [heldReply, State.heldFor]
  cases podOf t.target.toNat with
  | none => rcases t.origin with _ | _ <;> rcases t.isSample with _ | _ <;> rfl
  | some i =>
    cases horigin : t.origin with
    | sweep => simp
    | trunk =>
      cases hsample : t.isSample with
      | false => simp
      | true =>
        simp only [true_and]
        split
        · simp only [Option.map_map, State.heldBody, heldPayload, withHeld, ageOf_eq_ageSeconds, annotation_eq]
          rfl
        · rfl

/-- R31, R99: a miss changes nothing that a held reply reads. -/
theorem heldBody_countMiss (s : State) (i : PodIx) (stored : List Byte) :
    (s.countMiss i).heldBody i stored = s.heldBody i stored := by
  have hlast : (tget (s.countMiss i).pods i).lastReply = (tget s.pods i).lastReply := by simp [State.countMiss]
  simp only [State.heldBody, heldPayload, ageOf, hlast, annotation_countMiss]
  rfl

/-- R99, R128: a held reply counted, written in its slot and queued. -/
theorem sendHeld_eq (s : State) (k : SlotNo) (i : PodIx) (stored : List Byte) :
    s.sendHeld k i stored =
      ((if (s.podEntry i).annotate then (s.count .substitutes).count .annotated else s.count .substitutes).fillSlot k
        (telegram (upChar (BitVec.ofNat 7 (i.val + 1))) 0x23 (s.heldBody i stored))).joinUp k := by
  rw [State.sendHeld, State.heldBody]
  split
  · rfl
  · simp only [List.append_nil]

/-- R31, R127: a miss at a pod, counted for the part and in the pod's record. -/
theorem missCounted_eq (s : State) (i : PodIx) :
    { s.count .fieldMisses with
        pods := tset s.pods i { tget s.pods i with
          missCount := if (tget s.pods i).missCount < 255 then (tget s.pods i).missCount + 1
                       else (tget s.pods i).missCount } } = (s.count .fieldMisses).countMiss i := rfl

/-- R128: the miss stated, where it builds a held reply. -/
theorem missed_of_held {s : State} {t : Txn} {i : PodIx} {body : List Byte} (hreply : heldReply s t = some body)
    (hpod : podOf t.target.toNat = some i) (k : SlotNo) :
    missed s t k =
      (((if (s.podEntry i).annotate then (((s.count .fieldMisses).countMiss i).count .substitutes).count .annotated
        else ((s.count .fieldMisses).countMiss i).count .substitutes).fillSlot k
          (telegram (upChar t.target) 0x23 body)).joinUp k).setField (guardPort s.now t .miss) := by
  have hupQ : s.upQ = ((s.count .fieldMisses).countMiss i).upQ := rfl
  have hslots : s.slots = ((s.count .fieldMisses).countMiss i).slots := rfl
  simp only [missed, hreply, hpod, missCounted_eq, hupQ, hslots]
  generalize (s.count .fieldMisses).countMiss i = u
  split <;> rfl

/-- R127, R128: the model's miss is the one stated. -/
theorem missTxn_eq_missed (s : State) (t : Txn) (k : SlotNo) : s.missTxn t k = missed s t k := by
  have hreply := heldReply_eq s t
  cases hheld : s.heldFor t with
  | none =>
    rw [hheld] at hreply
    rw [State.missTxn, missed, hheld, hreply]
    cases podOf t.target.toNat <;> rfl
  | some held =>
    obtain ⟨i, stored⟩ := held
    have hpod := podOf_of_heldFor hheld
    have hbody : ((s.count .fieldMisses).countMiss i).heldBody i stored = s.heldBody i stored :=
      heldBody_countMiss (s.count .fieldMisses) i stored
    have hentry : ((s.count .fieldMisses).countMiss i).podEntry i = s.podEntry i := rfl
    rw [hheld] at hreply
    rw [missed_of_held hreply hpod, State.missTxn, hheld, hpod]
    refine (enterGuard_of_now (sendHeld_now _ k i stored) t .miss).trans ?_
    simp only [sendHeld_eq, ofNat_of_podOf hpod, hbody, hentry, countMiss_now, count_now]

theorem badReply_eq_missed (s : State) (t : Txn) (k : SlotNo) : s.badReply t k = missed (s.count .fieldBad) t k :=
  missTxn_eq_missed _ t k

/-! ### A good reply (R123 to R125, TABLE 7-3) -/

/-- R89, R91: what the receiver finds, case by case. -/
theorem assembly_eq (u : List Byte) :
    assembly u =
      if u.length < 3 ∨ (lengthOf u ≤ 32 ∧ u.length < 5 + lengthOf u) then .unfinished
      else if 32 < lengthOf u then .overlength
      else .complete := by
  rw [assembly]
  by_cases hlong : 32 < lengthOf u
  · have hnot : ¬ (lengthOf u ≤ 32 ∧ u.length < 5 + lengthOf u) := by omega
    simp only [hlong, hnot, if_true, or_false]
  · have hle : lengthOf u ≤ 32 := by omega
    simp only [hlong, hle, if_false, true_and, ite_or]

theorem payloadOf_length_of_complete {u : List Byte} (h : assembly u = .complete) :
    (payloadOf u).length = lengthOf u := by
  rw [assembly_eq] at h
  split_ifs at h
  rw [payloadOf, List.length_take, List.length_drop]
  omega

/-- R22: a reply is refused for its length alone. -/
theorem takingOf_eq_refused_iff (e : PodEntry) (r : PodRecord) (p : List Byte) :
    takingOf e r p = .refused ↔ sampleLength e.role ≠ some p.length := by
  rw [takingOf]
  split_ifs <;> simp [*]

theorem sampleLength_le {role : Role} {n : Nat} (h : sampleLength role = some n) : n ≤ 8 := by
  cases role <;> simp [sampleLength] at h <;> omega

/-- R123: the pod to whose record a reply is delivered. -/
theorem deliveredTo_of_pod {s : State} {t : Txn} {i : PodIx} (hpod : podOf t.target.toNat = some i)
    (reply : List Byte) :
    s.deliveredTo t reply =
      if t.isSample = true ∧ kindOf reply = 0x21 ∧ (s.podEntry i).role ≠ .absent then some i else none := by
  rw [State.deliveredTo, hpod]
  cases t.isSample <;> simp

theorem deliveredTo_of_no_pod {s : State} {t : Txn} (hpod : podOf t.target.toNat = none) (reply : List Byte) :
    s.deliveredTo t reply = none := by
  rw [State.deliveredTo, hpod]
  cases t.isSample <;> rfl

theorem podOf_of_deliveredTo {s : State} {t : Txn} {i : PodIx} {reply : List Byte}
    (h : s.deliveredTo t reply = some i) : podOf t.target.toNat = some i := by
  cases hpod : podOf t.target.toNat with
  | none => simp [deliveredTo_of_no_pod hpod] at h
  | some j =>
    rw [deliveredTo_of_pod hpod] at h
    exact (Option.ite_none_right_eq_some.1 h).2

theorem forwardSample_unannotated {s : State} {i : PodIx} (hflag : (s.podEntry i).annotate = false) (k : SlotNo)
    (reply : List Byte) : s.forwardSample k i reply = s.takeReply i (payloadOf reply) := by
  rw [State.forwardSample, hflag, if_neg Bool.false_ne_true]

/-- R125: a reply that the sample engine refuses is not annotated, and one too long to annotate is counted. -/
theorem forwardSample_refused {s : State} {i : PodIx} {reply : List Byte} (hflag : (s.podEntry i).annotate = true)
    (hlength : sampleLength (s.podEntry i).role ≠ some (payloadOf reply).length) (k : SlotNo) :
    s.forwardSample k i reply =
      if 26 < lengthOf reply then (s.count .annotSkipped).takeReply i (payloadOf reply)
      else s.takeReply i (payloadOf reply) := by
  rw [State.forwardSample, if_pos hflag, if_pos ((takingOf_eq_refused_iff _ _ _).2 hlength)]

/-- R125: a reply that the sample engine takes is never too long to annotate. -/
theorem forwardSample_annotated {s : State} {i : PodIx} {reply : List Byte} (hflag : (s.podEntry i).annotate = true)
    (hcomplete : assembly reply = .complete)
    (hlength : sampleLength (s.podEntry i).role = some (payloadOf reply).length) (k : SlotNo) :
    s.forwardSample k i reply = (s.takeReply i (payloadOf reply)).annotateReply k i reply := by
  have hshort : ¬ 26 < lengthOf reply := by
    have := sampleLength_le hlength
    rw [payloadOf_length_of_complete hcomplete] at this
    omega
  rw [State.forwardSample, if_pos hflag, if_neg hshort, if_neg fun h => (takingOf_eq_refused_iff _ _ _).1 h hlength]

/-- R123: a good reply that is delivered to no pod. -/
theorem disposed_of_undelivered {s : State} {t : Txn} {reply : List Byte} (hdelivered : s.deliveredTo t reply = none)
    (k : SlotNo) :
    disposed s t k reply =
      (match t.origin with
        | .trunk => (s.count .fieldReplies).joinUp k
        | .sweep => s.count .fieldReplies).setField (guardPort s.now t .reply) := by
  cases hpod : podOf t.target.toNat with
  | none =>
    simp only [disposed, hpod, guardPort]
    cases t.origin <;> rfl
  | some i =>
    rw [deliveredTo_of_pod hpod] at hdelivered
    simp only [disposed, hpod, hdelivered, guardPort]
    cases t.origin <;> rfl

/-- R123: a reply to a sweep poll, delivered. -/
theorem disposed_of_swept {s : State} {t : Txn} {i : PodIx} {reply : List Byte} (horigin : t.origin = .sweep)
    (hpod : podOf t.target.toNat = some i) (hdelivered : s.deliveredTo t reply = some i) (k : SlotNo) :
    disposed s t k reply =
      ((s.count .fieldReplies).takeReply i (payloadOf reply)).setField (guardPort s.now t .reply) := by
  rw [deliveredTo_of_pod hpod] at hdelivered
  simp only [disposed, hpod, hdelivered, guardPort]
  rw [horigin]
  rfl

/-- R123, R125: a reply to the head-end, delivered, and annotated or not. -/
theorem disposed_of_forwarded {s : State} {t : Txn} {i : PodIx} {reply : List Byte} (horigin : t.origin = .trunk)
    (hpod : podOf t.target.toNat = some i) (hdelivered : s.deliveredTo t reply = some i)
    (hcomplete : assembly reply = .complete) (k : SlotNo) :
    disposed s t k reply =
      (((s.count .fieldReplies).forwardSample k i reply).joinUp k).setField (guardPort s.now t .reply) := by
  rw [deliveredTo_of_pod hpod] at hdelivered
  simp only [disposed, hpod, hdelivered, guardPort]
  rw [horigin]
  cases hflag : (s.podEntry i).annotate with
  | false =>
    rw [forwardSample_unannotated (s := s.count .fieldReplies) hflag]
    simp only [hflag, true_or, if_true, Bool.false_eq_true, false_and, if_false]
    rfl
  | true =>
    by_cases hlength : sampleLength (s.podEntry i).role = some (payloadOf reply).length
    · rw [forwardSample_annotated (s := s.count .fieldReplies) hflag hcomplete hlength]
      simp only [hflag, hlength, Bool.true_eq_false, ne_eq, not_true_eq_false, or_self, if_false, ← annotation_eq]
      rfl
    · rw [forwardSample_refused (s := s.count .fieldReplies) hflag hlength]
      simp only [hflag, hlength, ne_eq, not_false_eq_true, or_true, if_true, true_and]
      rfl

/-- R123, TABLE 7-3: the model's disposal of a complete good reply is the one stated. -/
theorem goodReply_eq_disposed {s : State} {k : SlotNo} (hcomplete : assembly (s.slot k) = .complete) (t : Txn) :
    s.goodReply t k = disposed s t k (s.slot k) := by
  rw [State.goodReply]
  cases hdelivered : s.deliveredTo t (s.slot k) with
  | none =>
    rw [disposed_of_undelivered hdelivered]
    cases t.origin <;> rfl
  | some i =>
    have hpod := podOf_of_deliveredTo hdelivered
    cases horigin : t.origin with
    | sweep =>
      rw [disposed_of_swept horigin hpod hdelivered]
      exact enterGuard_of_now (takeReply_now _ i _) t .reply
    | trunk =>
      rw [disposed_of_forwarded horigin hpod hdelivered hcomplete]
      exact enterGuard_of_now (s := ((s.count .fieldReplies).forwardSample k i (s.slot k)).joinUp k)
        (forwardSample_now _ k i _) t .reply

end Sys2Proof.Machine
end

section
/-! PROOFS. The field port through a transaction (R120 to R122, R129, R130, R134): the end of sending, the characters on
the field line and the guard timer, in every state of the port. -/

namespace Sys2Proof.Machine

open Sys2Proof.Stated

/-! ### The states that the statements start from -/

theorem elapsed_eq (s : State) (dt : Nat) : { s with now := s.now + dt } = s.elapse dt := rfl

/-- R90: a character on the field line has ended. -/
theorem fieldTouched_eq (s : State) (dt : Nat) :
    { s with now := s.now + dt, fieldQuiet := s.now + dt } = (s.elapse dt).touchField := rfl

/-- R103, R122: a character on the field line has ended, and a slot holds a telegram as far as it has come. -/
theorem fieldStored_eq (s : State) (dt : Nat) (k : SlotNo) (u : List Byte) :
    { s with now := s.now + dt, fieldQuiet := s.now + dt,
             slots := tset s.slots k (overlaid (tget s.slots k) u) } = (s.elapse dt).touchField.fillSlot k u := rfl

/-! ### The guard timer (R129) and the end of sending (R120, R134) -/

/-- Settles O57, by the port's state. -/
theorem guardTimerEndsTheTransaction : Obligations.GuardTimerEndsTheTransaction := by
  unfold Obligations.GuardTimerEndsTheTransaction
  intro dt s hheld
  change event dt State.guardExpiry s = _
  rw [event_running hheld, State.guardExpiry, elapse_fieldPort]
  simp only [elapsed_eq]
  cases s.fieldPort with
  | idle => rfl
  | busy t phase => cases phase <;> rfl

/-- Settles O54, by the port's state and, where the sending is over, by what its slot and the request ask for. -/
theorem fieldSendingEndAwaitsOrGuards : Obligations.FieldSendingEndAwaitsOrGuards := by
  unfold Obligations.FieldSendingEndAwaitsOrGuards
  intro dt s hheld
  change event dt State.sendingEnd s = _
  rw [event_running hheld, State.sendingEnd, elapse_fieldPort]
  simp only [elapsed_eq]
  cases s.fieldPort with
  | idle => rfl
  | busy t phase =>
    cases phase with
    | awaiting | receiving | guarding => rfl
    | sending copy ends slot => cases slot <;> rfl

/-! ### The characters on the field line (R121, R122, R129, R130) -/

/-- R93, R121: the address character of a reply is its direction and its address. -/
theorem eq_upChar_iff (c : Byte) (a : BitVec 7) : c = upChar a ↔ c.getLsbD 7 = true ∧ c.setWidth 7 = a := by
  constructor
  · rintro rfl
    exact ⟨isUp_upChar a, addressOf_upChar a⟩
  · rintro ⟨hup, rfl⟩
    revert c
    decide

/-- Settles O55, by the port's state; a miss by `badReply_eq_missed` and the guard by `restartGuard_eq`. -/
theorem fieldMarkCharacterIsJudged : Obligations.FieldMarkCharacterIsJudged := by
  unfold Obligations.FieldMarkCharacterIsJudged
  intro dt c stop s hheld
  change event dt (fun s => s.fieldMark c stop) s = _
  rw [event_running hheld, State.fieldMark, elapse_fieldPort]
  simp only [elapsed_eq, fieldTouched_eq]
  cases s.fieldPort with
  | idle => rfl
  | busy t phase =>
    cases phase with
    | sending => rfl
    | awaiting window k =>
      simp only [eq_upChar_iff]
      rfl
    | receiving gap k =>
      simp only [badReply_eq_missed]
      rfl
    | guarding expiry =>
      simp only [restartGuard_eq]
      rfl

/-- R122, R91: a data character of a reply, stored, by what the receiver then finds. -/
theorem storeReplyChar_eq (s : State) (t : Txn) (k : SlotNo) (c : Byte) :
    let u := s.slot k ++ [c]
    s.storeReplyChar t k c =
      if u.length < 3 ∨ (lengthOf u ≤ 32 ∧ u.length < 5 + lengthOf u) then
        (s.fillSlot k u).setField (.busy t (.receiving (s.now + 3 * Txn.charTime t) k))
      else if 32 < lengthOf u ∨ isGood u = false then missed ((s.fillSlot k u).count .fieldBad) t k
      else disposed (s.fillSlot k u) t k u := by
  intro u
  have hgood := goodReply_eq_disposed (s := s.fillSlot k u) (k := k)
  rw [fillSlot_slot] at hgood
  rw [State.storeReplyChar, show s.slot k ++ [c] = u from rfl]
  by_cases hpart : u.length < 3 ∨ (lengthOf u ≤ 32 ∧ u.length < 5 + lengthOf u)
  · simp only [assembly_eq, if_pos hpart]
  by_cases hlong : 32 < lengthOf u
  · simp only [assembly_eq, if_neg hpart, hlong, true_or, if_true, badReply_eq_missed]
  have hcomplete : assembly u = .complete := by rw [assembly_eq, if_neg hpart, if_neg hlong]
  simp only [hcomplete, if_neg hpart, hlong, false_or, hgood hcomplete, badReply_eq_missed]
  cases isGood u <;> rfl

/-- Settles O56, by the port's state; a reply's character by `storeReplyChar_eq`. -/
theorem fieldDataCharacterIsStored : Obligations.FieldDataCharacterIsStored := by
  unfold Obligations.FieldDataCharacterIsStored
  intro dt c stop s hheld
  change event dt (fun s => s.fieldData c stop) s = _
  rw [event_running hheld, State.fieldData, elapse_fieldPort]
  simp only [elapsed_eq, fieldTouched_eq, fieldStored_eq]
  cases s.fieldPort with
  | idle => rfl
  | busy t phase =>
    cases phase with
    | sending | awaiting => rfl
    | receiving gap k =>
      simp only [badReply_eq_missed, storeReplyChar_eq]
      cases stop with
      | false => rfl
      | true =>
        simp only [if_true, Bool.true_eq_false, if_false]
        rfl
    | guarding expiry =>
      simp only [restartGuard_eq]
      rfl

end Sys2Proof.Machine
end

section
/-! PROOFS. Every operation on the sweep record keeps it standing by its list (R148 to R158). -/

namespace Sys2Proof.Machine

open Sys2Proof.Stated

/-! ### The clauses of the law, by name (R148) -/

/-- R155: what a coverage set and its flag hold, by the list they are formed from. -/
structure CoverageStands (l : List (Option PodIx)) (coverage : Vector Bool 63) (covered : Bool) : Prop where
  listed : ∀ i, tget coverage i = true → some i ∈ l
  complete : covered = true → covers coverage l = true

/-- R148: the sweep record stands by a list. -/
structure SweepStandsBy (l : List (Option PodIx)) (w : SweepRecord) : Prop where
  delay : w.delayTimer.isSome = decide (w.state = .delaying)
  paced : w.state = .running → w.paceTimer.isSome = !w.due
  still : w.state ≠ .running → w.paceTimer = none ∧ w.due = false
  unlisted : l = [] → w.position = 0 ∧ w.state = .idle
  place : l ≠ [] → w.position < l.length
  rounds : w.state ≠ .idle → w.mode = .rounds → 1 ≤ w.rounds
  coverage : CoverageStands l w.coverage w.covered
  finished : w.done = true → w.state = .idle

theorem sweepLaw_iff {l : List (Option PodIx)} {w : SweepRecord} : sweepLaw l w = true ↔ SweepStandsBy l w := by
  rw [sweepLaw, decide_eq_true_iff]
  constructor
  · rintro ⟨hdelay, hpace, hplace, hrounds, hlisted, hcomplete, hfinished⟩
    exact
      { delay := hdelay
        paced := fun h => by rwa [if_pos h] at hpace
        still := fun h => by rwa [if_neg h] at hpace
        unlisted := fun h => by rwa [if_pos h] at hplace
        place := fun h => by rwa [if_neg h] at hplace
        rounds := hrounds
        coverage := ⟨hlisted, hcomplete⟩
        finished := hfinished }
  · intro h
    refine ⟨h.delay, ?_, ?_, h.rounds, h.coverage.listed, h.coverage.complete, h.finished⟩
    · split
      · next hrunning => exact h.paced hrunning
      · next hstill => exact h.still hstill
    · split
      · next hempty => exact h.unlisted hempty
      · next hlisted => exact h.place hlisted

/-- R148, R155: an empty coverage set, which is not complete. -/
theorem coverageStands_empty (l : List (Option PodIx)) : CoverageStands l (tconst 63 false) false :=
  ⟨fun i h => by simp at h, fun h => Bool.noConfusion h⟩

/-- R155: a listed pod enters the coverage set, and the flag is set where that completes the set. -/
theorem CoverageStands.enter {l : List (Option PodIx)} {coverage : Vector Bool 63} {covered : Bool}
    (h : CoverageStands l coverage covered) {i : PodIx} (hi : some i ∈ l) :
    CoverageStands l (tset coverage i true) (covered || covers (tset coverage i true) l) where
  listed := tset_forall (P := fun j c => c = true → some j ∈ l) (fun _ => hi) h.listed
  complete hcovered := by
    rcases Bool.or_eq_true_iff.1 hcovered with hbefore | hnow
    · refine (covers_iff _ l).2 (tset_forall (P := fun j c => some j ∈ l → c = true) (fun _ => rfl) ?_)
      exact (covers_iff coverage l).1 (h.complete hbefore)
    · exact hnow

/-! ### The operations of the scheduler -/

section

variable {l : List (Option PodIx)} {w : SweepRecord}

/-- R148: an IDLE record at the head of its list, with nothing running and an empty coverage set. -/
theorem sweepStandsBy_idle (hstate : w.state = .idle) (hposition : w.position = 0) (hdelay : w.delayTimer = none)
    (hpace : w.paceTimer = none) (hdue : w.due = false) (hcoverage : CoverageStands l w.coverage w.covered) :
    SweepStandsBy l w where
  delay := by simp [hdelay, hstate]
  paced h := by simp [hstate] at h
  still _ := ⟨hpace, hdue⟩
  unlisted _ := ⟨hposition, hstate⟩
  place h := by rw [hposition]; exact List.length_pos_of_ne_nil h
  rounds h := absurd hstate h
  coverage := hcoverage
  finished _ := hstate

/-- R149, R158: the record after a START, taken or not, by a bank whose program asks for a round at least. -/
theorem sweepStandsBy_startedSweep {b : Bank} (hrounds : 1 ≤ b.program.rounds) (now : Nat) :
    SweepStandsBy b.sweepList (startedSweep b now) := by
  rw [startedSweep]
  split
  · exact sweepStandsBy_idle rfl rfl rfl rfl rfl (coverageStands_empty _)
  · next htaken =>
    have hlisted : b.sweepList ≠ [] := fun h => htaken (.inr h)
    exact
      { delay := by by_cases hdelay : b.program.startDelay = 0 <;> simp [hdelay]
        paced := by simp
        still := by simp
        unlisted := fun hempty => absurd hempty hlisted
        place := List.length_pos_of_ne_nil
        rounds := fun _ _ => hrounds
        coverage := coverageStands_empty _
        finished := Bool.noConfusion }

/-- R148: a sweep that is not IDLE has a list, and has not finished. -/
theorem SweepStandsBy.listed (h : SweepStandsBy l w) (hstate : w.state ≠ .idle) : l ≠ [] :=
  fun hempty => hstate (h.unlisted hempty).2

theorem SweepStandsBy.not_done (h : SweepStandsBy l w) (hstate : w.state ≠ .idle) : w.done = false :=
  Bool.eq_false_iff.2 fun hdone => hstate (h.finished hdone)

/-- R148: due is set in RUNNING alone, where the pace timer then does not run. -/
theorem SweepStandsBy.of_due (h : SweepStandsBy l w) (hdue : w.due = true) :
    w.state = .running ∧ w.paceTimer = none := by
  have hrunning : w.state = .running := by
    by_contra hstill
    exact Bool.false_ne_true ((h.still hstill).2.symm.trans hdue)
  exact ⟨hrunning, by simpa [hdue] using h.paced hrunning⟩

/-- R151: entry to RUNNING from any state in which a sweep is under way. -/
theorem SweepStandsBy.enterRunning (h : SweepStandsBy l w) (hstate : w.state ≠ .idle) :
    SweepStandsBy l (enterRunning w) where
  delay := rfl
  paced _ := rfl
  still hstill := absurd rfl hstill
  unlisted hempty := absurd hempty (h.listed hstate)
  place := h.place
  rounds _ := h.rounds hstate
  coverage := h.coverage
  finished hdone := Bool.noConfusion ((h.not_done hstate).symm.trans hdone)

/-- R150: a STOP. -/
theorem SweepStandsBy.stopSweep (h : SweepStandsBy l w) : SweepStandsBy l (stopSweep w) := by
  rw [Machine.stopSweep]
  split
  · next hactive =>
    have hstate : w.state ≠ .idle := by rcases hactive with hs | hs <;> simp [hs]
    exact
      { delay := rfl
        paced := fun hrunning => SweepState.noConfusion hrunning
        still := fun _ => ⟨rfl, rfl⟩
        unlisted := fun hempty => absurd hempty (h.listed hstate)
        place := h.place
        rounds := fun _ => h.rounds hstate
        coverage := h.coverage
        finished := fun hdone => Bool.noConfusion ((h.not_done hstate).symm.trans hdone) }
  · exact h

/-- R153: the pace timer's expiry in RUNNING. -/
theorem SweepStandsBy.paceEnds (h : SweepStandsBy l w) (hstate : w.state = .running) :
    SweepStandsBy l { w with paceTimer := none, due := true } :=
  { h with
    paced := fun _ => rfl
    still := fun hstill => absurd hstate hstill }

/-- R152: the scheduler moves on in RUNNING, with the pace timer run anew. -/
theorem SweepStandsBy.movesOn (h : SweepStandsBy l w) (hstate : w.state = .running) {place rounds : Nat}
    (hplace : place < l.length) (hrounds : w.mode = .rounds → 1 ≤ rounds) (expiry : Nat) :
    SweepStandsBy l { w with due := false, position := place, rounds := rounds, paceTimer := some expiry } :=
  { h with
    paced := fun _ => rfl
    still := fun hstill => absurd hstate hstill
    unlisted := fun hempty => absurd hempty (h.listed (by simp [hstate]))
    place := fun _ => hplace
    rounds := fun _ => hrounds }

/-- R152: a poll starts: the next place of the list, the head of it for the next round, or the end of the last round. -/
theorem SweepStandsBy.pollStarted (h : SweepStandsBy l w) (hdue : w.due = true) (pace now : Nat) :
    SweepStandsBy l (pollStarted l.length pace now w) := by
  obtain ⟨hrunning, hpace⟩ := h.of_due hdue
  have hbusy : w.state ≠ .idle := by simp [hrunning]
  have hplace : w.position < l.length := h.place (h.listed hbusy)
  simp only [Machine.pollStarted]
  split
  · have hhead : 0 < l.length := Nat.zero_lt_of_lt hplace
    split
    · next hmode => exact h.movesOn hrunning hhead (by simp [hmode]) _
    · split
      · exact sweepStandsBy_idle rfl rfl (by simpa [hrunning] using h.delay) hpace rfl h.coverage
      · next hleft => exact h.movesOn hrunning hhead (fun _ => Nat.one_le_iff_ne_zero.2 hleft) _
  · next hinside => exact h.movesOn hrunning (by omega) (h.rounds hbusy) _

/-- R155: a listed pod enters the coverage set. -/
theorem SweepStandsBy.enterCoverage (h : SweepStandsBy l w) {i : PodIx} (hi : some i ∈ l) :
    SweepStandsBy l { w with
      coverage := tset w.coverage i true, covered := w.covered || covers (tset w.coverage i true) l } :=
  { h with coverage := h.coverage.enter hi }

/-- R156: a swap, to whichever list. -/
theorem SweepStandsBy.swapSweep (h : SweepStandsBy l w) (new : List (Option PodIx)) :
    SweepStandsBy new (swapSweep new w) := by
  simp only [Machine.swapSweep]
  split
  · exact sweepStandsBy_idle rfl rfl rfl rfl rfl (coverageStands_empty new)
  · next hkept =>
    exact
      { h with
        unlisted := fun hempty => ⟨rfl, by simpa [hempty] using hkept⟩
        place := List.length_pos_of_ne_nil
        coverage := coverageStands_empty new }

/-- R157: a FIELD-RESTART. -/
theorem sweepStandsBy_restartSweep (l : List (Option PodIx)) (w : SweepRecord) : SweepStandsBy l (restartSweep w) :=
  sweepStandsBy_idle rfl rfl rfl rfl rfl (coverageStands_empty l)

end

end Sys2Proof.Machine
end

section
/-! PROOFS. Every effect keeps the sweep record standing by the active list, and so does every step. -/

namespace Sys2Proof.Machine

open Sys2Proof.Stated

/-! ### The banks that a START may come to read (TABLE 10-2) -/

/-- TABLE 10-2: every bank that is active, or may become so, asks for a round at least. -/
structure RoundsAsked (s : State) : Prop where
  zero : 1 ≤ s.bank0.program.rounds
  one : 1 ≤ s.bank1.program.rounds
  snapshot : ∀ b ∈ s.snapshot, 1 ≤ b.program.rounds
  image : imageValid s.image = true → 1 ≤ s.image.bank.program.rounds

theorem rounds_of_bankRanges {b : Bank} (h : bankRanges b = true) : 1 ≤ b.program.rounds := by
  obtain ⟨_, _, _, _, ⟨hrounds, _⟩, _⟩ := of_decide_eq_true h
  exact hrounds

theorem rounds_of_bankFit {b : Bank} (h : bankFit b = true) : 1 ≤ b.program.rounds :=
  rounds_of_bankRanges (Bool.and_elim_left h)

theorem roundsAsked_of_banksLawful {s : State} (h : s.banksLawful) : RoundsAsked s := by
  obtain ⟨hzero, hone, _, hsnapshot, himage⟩ := h
  exact ⟨rounds_of_bankRanges hzero, rounds_of_bankRanges hone, fun b hb => rounds_of_bankFit (hsnapshot b hb),
    fun hvalid => rounds_of_bankFit (himage hvalid)⟩

theorem RoundsAsked.active {s : State} (h : RoundsAsked s) : 1 ≤ s.active.program.rounds := by
  unfold State.active
  cases s.selector with
  | zero => exact h.zero
  | one => exact h.one

theorem RoundsAsked.shadow {s : State} (h : RoundsAsked s) : 1 ≤ s.shadow.program.rounds := by
  unfold State.shadow
  cases s.selector with
  | zero => exact h.one
  | one => exact h.zero

/-- R170: so does the bank that start-up makes active. -/
theorem RoundsAsked.startBank {s : State} (h : RoundsAsked s) : 1 ≤ s.startBank.program.rounds := by
  unfold State.startBank
  split
  · next hvalid => exact h.image hvalid
  · decide

theorem RoundsAsked.setShadow {s : State} (h : RoundsAsked s) {b : Bank} (hb : 1 ≤ b.program.rounds) :
    RoundsAsked (s.setShadow b) := by
  unfold State.setShadow
  cases s.selector with
  | zero => exact { h with one := hb }
  | one => exact { h with zero := hb }

/-- R161, R162: the clamp leaves a round at least. -/
theorem readFieldBody_rounds {p : List Byte} {f : FieldSettings} {g : SweepProgram} {c : Bool}
    (h : readFieldBody p = some ((f, g), c)) : 1 ≤ g.rounds := by
  have hclamp : ∀ n, 1 ≤ (clampNat 1 255 n).1 := fun n => by
    rw [clampNat]
    split
    · exact le_rfl
    · split
      · decide
      · next hlow _ => exact Nat.le_of_not_lt hlow
  rw [readFieldBody] at h
  split at h
  · simp only [Option.some.injEq, Prod.mk.injEq] at h
    obtain ⟨⟨_, rfl⟩, _⟩ := h
    exact hclamp _
  · cases h

/-- R182: an image whose check characters are 255 is not valid. -/
theorem imageValid_255 (b : Bank) : imageValid { bank := b, checkA := 255, checkB := 255 } = false := rfl

theorem RoundsAsked.beginStore {s : State} (h : RoundsAsked s) : RoundsAsked s.beginStore :=
  { h with
    snapshot := fun _ hb => Option.some_inj.1 hb ▸ h.active
    image := fun hvalid => Bool.noConfusion ((imageValid_255 _).symm.trans hvalid) }

/-- R183: a write that ends DONE leaves the snapshot in the image. -/
theorem RoundsAsked.storeExpiry {s : State} (h : RoundsAsked s) (cellsMatch : Bool) :
    RoundsAsked (s.storeExpiry cellsMatch) := by
  unfold State.storeExpiry
  split
  · split
    · next b hsnapshot =>
      exact
        { h with
          snapshot := fun b hb => absurd hb (Option.not_mem_none b)
          image := fun _ => h.snapshot b hsnapshot }
    · exact { h with snapshot := fun b hb => absurd hb (Option.not_mem_none b) }
  · exact h

/-! ### The sweep of a state -/

/-- R148: the sweep record stands by the active list, and what a START may come to read asks for a round at least. -/
structure SweepStands (s : State) : Prop where
  asked : RoundsAsked s
  record : SweepStandsBy s.active.sweepList s.sweep

/-- Two states agree on the sweep record and the banks. -/
structure SameSweep (s t : State) : Prop where
  sweep : t.sweep = s.sweep
  bank0 : t.bank0 = s.bank0
  bank1 : t.bank1 = s.bank1
  selector : t.selector = s.selector
  snapshot : t.snapshot = s.snapshot
  image : t.image = s.image

theorem SameSweep.refl (s : State) : SameSweep s s := ⟨rfl, rfl, rfl, rfl, rfl, rfl⟩

theorem SameSweep.trans {s t u : State} (h : SameSweep s t) (h' : SameSweep t u) : SameSweep s u :=
  ⟨h'.sweep.trans h.sweep, h'.bank0.trans h.bank0, h'.bank1.trans h.bank1, h'.selector.trans h.selector,
    h'.snapshot.trans h.snapshot, h'.image.trans h.image⟩

theorem SameSweep.active {s t : State} (h : SameSweep s t) : t.active = s.active := by
  rw [State.active, State.active, h.selector, h.bank0, h.bank1]

theorem SweepStands.of_same {s t : State} (h : SweepStands s) (hsame : SameSweep s t) : SweepStands t where
  asked :=
    { zero := by rw [hsame.bank0]; exact h.asked.zero
      one := by rw [hsame.bank1]; exact h.asked.one
      snapshot := by rw [hsame.snapshot]; exact h.asked.snapshot
      image := by rw [hsame.image]; exact h.asked.image }
  record := by rw [hsame.active, hsame.sweep]; exact h.record

/-- One sweep record written that stands by the active list. -/
theorem SweepStands.setSweep {s : State} (h : SweepStands s) {w : SweepRecord}
    (hw : SweepStandsBy s.active.sweepList w) : SweepStands (s.setSweep w) := ⟨{ h.asked with }, hw⟩

/-! ### The timers of the sweep (R151, R153) -/

theorem SweepStands.delayExpiry {s : State} (h : SweepStands s) : SweepStands s.delayExpiry := by
  unfold State.delayExpiry
  split
  · next hdue => exact h.setSweep (h.record.enterRunning (by simp [hdue.1]))
  · exact h

theorem SweepStands.paceExpiry {s : State} (h : SweepStands s) : SweepStands s.paceExpiry := by
  unfold State.paceExpiry
  split
  · next hdue => exact h.setSweep (h.record.paceEnds hdue.1)
  · exact h

/-! ### Zones, outputs and the store -/

theorem evaluatePodZone_sameSweep (s : State) (i : PodIx) : SameSweep s (s.evaluatePodZone i) := by
  constructor <;> simp

theorem zoneExpiry_sameSweep (s : State) (z : ZoneIx) : SameSweep s (s.zoneExpiry z) := by
  unfold State.zoneExpiry
  split
  · split
    · constructor <;> simp
    · exact SameSweep.refl s
  · exact SameSweep.refl s

theorem onTimeExpiry_sameSweep (s : State) (o : OutIx) : SameSweep s (s.onTimeExpiry o) := by
  unfold State.onTimeExpiry
  split <;> exact ⟨rfl, rfl, rfl, rfl, rfl, rfl⟩

theorem periodExpiry_sameSweep (s : State) (o : OutIx) : SameSweep s (s.periodExpiry o) := by
  unfold State.periodExpiry
  split <;> exact ⟨rfl, rfl, rfl, rfl, rfl, rfl⟩

theorem storeExpiry_sweep (s : State) (cellsMatch : Bool) : (s.storeExpiry cellsMatch).sweep = s.sweep := by
  unfold State.storeExpiry
  (repeat' split) <;> rfl

theorem SweepStands.storeExpiry {s : State} (h : SweepStands s) (cellsMatch : Bool) :
    SweepStands (s.storeExpiry cellsMatch) where
  asked := h.asked.storeExpiry cellsMatch
  record := by
    rw [(storeExpiry_samePods s cellsMatch).2, storeExpiry_sweep]
    exact h.record

/-! ### Samples (R24, R29, R155) -/

theorem setPod_sameSweep (s : State) (i : PodIx) (r : PodRecord) : SameSweep s (s.setPod i r) :=
  ⟨rfl, rfl, rfl, rfl, rfl, rfl⟩

theorem count_sameSweep (s : State) (c : Counter) : SameSweep s (s.count c) := ⟨rfl, rfl, rfl, rfl, rfl, rfl⟩

/-- R155: only a pod that the active list names enters the coverage set. -/
theorem SweepStands.enterCoverage {s : State} (h : SweepStands s) (i : PodIx) : SweepStands (s.enterCoverage i) := by
  unfold State.enterCoverage
  split
  · next henters =>
    have hlisted : some i ∈ s.active.sweepList := List.contains_iff_mem.1 (Bool.and_elim_left henters)
    exact h.setSweep (h.record.enterCoverage hlisted)
  · exact h

/-- TABLE 2-4: of a taken reply an accepted one alone bears on the sweep, by the coverage set. -/
theorem SweepStands.takeReply {s : State} (h : SweepStands s) (i : PodIx) (p : List Byte) :
    SweepStands (s.takeReply i p) := by
  have htaken := h.of_same (setPod_sameSweep s i (takenRecord (s.podEntry i) s.now (tget s.pods i) p))
  have hcovered := htaken.enterCoverage i
  simp only [State.takeReply]
  split
  · exact htaken.of_same (count_sameSweep _ _)
  · exact htaken.of_same (count_sameSweep _ _)
  · exact hcovered
  · exact hcovered.of_same (evaluatePodZone_sameSweep _ i)

theorem staleExpiry_sameSweep (s : State) (i : PodIx) : SameSweep s (s.staleExpiry i) := by
  unfold State.staleExpiry
  split
  · exact (setPod_sameSweep s i _).trans (evaluatePodZone_sameSweep _ i)
  · exact SameSweep.refl s

/-! ### Reset, start-up, swap and field restart -/

/-- R184: a full reset discards the snapshot, and leaves the banks and the image. -/
theorem SweepStands.enterReset {s : State} (h : SweepStands s) : SweepStands s.enterReset where
  asked := { h.asked with snapshot := fun b hb => absurd hb (Option.not_mem_none b) }
  record := h.record

/-- R158, R186: start-up leaves the automatic START, by the bank that it makes active. -/
theorem RoundsAsked.setUp {s : State} (h : RoundsAsked s) (trate : BitVec 2) (addr : BitVec 6) :
    SweepStands (s.setUp trate addr) := by
  rw [State.setUp, automaticStart_eq rfl]
  exact
    { asked :=
        { zero := h.startBank
          one := h.startBank
          snapshot := fun b hb => absurd hb (Option.not_mem_none b)
          image := h.image }
      record := sweepStandsBy_startedSweep h.startBank 0 }

/-- R156, R167: a swap hands the sweep record to the incoming list. -/
theorem SweepStands.flip {s : State} (h : SweepStands s) : SweepStands s.flip := by
  obtain ⟨pods, zones, changeSet, alert, outputs, _, hflip⟩ := flip_eq s
  rw [hflip]
  have hrecord : SweepStandsBy { s with selector := BankNo.other s.selector }.active.sweepList
      (swapSweep s.shadow.sweepList s.sweep) := by
    rw [active_other]
    exact h.record.swapSweep _
  exact ⟨{ h.asked with }, hrecord⟩

/-- R157: a FIELD-RESTART leaves the sweep IDLE. -/
theorem SweepStands.restartField {s : State} (h : SweepStands s) : SweepStands s.restartField := by
  obtain ⟨zones, changeSet, alert, outputs, _, hrestart⟩ := restartField_eq s
  rw [hrestart]
  exact ⟨{ h.asked with }, sweepStandsBy_restartSweep _ _⟩

/-! ### Management requests -/

/-- R171: a write to the shadow bank that asks for a round at least. -/
theorem SweepStands.setShadow {s : State} (h : SweepStands s) {b : Bank} (hb : 1 ≤ b.program.rounds) :
    SweepStands (s.setShadow b) where
  asked := h.asked.setShadow hb
  record := by
    rw [setShadow_active, setShadow_sweep]
    exact h.record

/-- R149: a START that is taken. -/
theorem SweepStands.sweepStart {s t : State} (h : SweepStands s) (hstart : s.sweepStart = some t) : SweepStands t := by
  rw [sweepStart_eq] at hstart
  split at hstart
  · cases hstart
  · obtain rfl := Option.some_inj.1 hstart
    exact h.setSweep (sweepStandsBy_startedSweep h.asked.active s.now)

/-- R150: a RESUME that is taken. -/
theorem SweepStands.sweepResume {s t : State} (h : SweepStands s) (hresume : s.sweepResume = some t) :
    SweepStands t := by
  rw [State.sweepResume] at hresume
  split at hresume
  · next hheld =>
    obtain rfl := Option.some_inj.1 hresume
    exact h.setSweep (h.record.enterRunning (by simp [hheld]))
  · cases hresume

/-- R171: taking a request, whatever it leaves. -/
theorem Requested.sweepStands {s t : State} (hrequest : Requested s t) (h : SweepStands s) : SweepStands t := by
  cases hrequest with
  | unchanged | statusRead | inhibited | released | countersCleared =>
    exact h.of_same ⟨rfl, rfl, rfl, rfl, rfl, rfl⟩
  | podWritten | zoneWritten | outputWritten | listWritten => exact h.setShadow h.asked.shadow
  | fieldWritten hbody => exact h.setShadow (readFieldBody_rounds hbody)
  | copied => exact h.setShadow h.asked.active
  | swapped => exact h.flip
  | sweepStarted hstart => exact h.sweepStart hstart
  | sweepStopped => exact h.setSweep h.record.stopSweep
  | sweepResumed hresume => exact h.sweepResume hresume
  | storeBegun => exact ⟨h.asked.beginStore, h.record⟩
  | fieldRestarted => exact h.restartField

/-! ### The trunk port -/

theorem trunkMark_sameSweep (s : State) (c : Byte) (stop : Bool) : SameSweep s (s.trunkMark c stop) := by
  unfold State.trunkMark State.offerTrunk
  (repeat' split) <;> exact ⟨rfl, rfl, rfl, rfl, rfl, rfl⟩

theorem trunkGap_sameSweep (s : State) : SameSweep s s.trunkGap := by
  unfold State.trunkGap
  (repeat' split) <;> exact ⟨rfl, rfl, rfl, rfl, rfl, rfl⟩

theorem startTransmission_sameSweep (s : State) : SameSweep s s.startTransmission := by
  unfold State.startTransmission
  (repeat' split) <;> exact ⟨rfl, rfl, rfl, rfl, rfl, rfl⟩

theorem endTransmission_sameSweep (s : State) : SameSweep s s.endTransmission := by
  unfold State.endTransmission
  (repeat' split) <;> exact ⟨rfl, rfl, rfl, rfl, rfl, rfl⟩

/-- R107: a request is taken, and its slot then holds the response. -/
theorem SweepStands.answerRequest {s : State} (h : SweepStands s) (k : SlotNo) (kind : Byte) (p : List Byte) :
    SweepStands (s.answerRequest k kind p) :=
  ((takeRequest_requested s kind p).sweepStands h).of_same ⟨rfl, rfl, rfl, rfl, rfl, rfl⟩

/-- R141: of the complete telegrams a good one to the own address alone bears on the sweep. -/
theorem SweepStands.completeTrunk {s : State} (h : SweepStands s) (k : SlotNo) : SweepStands (s.completeTrunk k) := by
  simp only [State.completeTrunk]
  split
  · split
    · exact (h.of_same (count_sameSweep s _)).answerRequest k _ _
    · exact h.of_same ⟨rfl, rfl, rfl, rfl, rfl, rfl⟩
  · exact h.of_same ⟨rfl, rfl, rfl, rfl, rfl, rfl⟩

theorem fillSlot_sameSweep (s : State) (k : SlotNo) (t : List Byte) : SameSweep s (s.fillSlot k t) :=
  ⟨rfl, rfl, rfl, rfl, rfl, rfl⟩

theorem abandonTrunk_sameSweep (s : State) : SameSweep s s.abandonTrunk := ⟨rfl, rfl, rfl, rfl, rfl, rfl⟩

theorem touchTrunk_sameSweep (s : State) : SameSweep s s.touchTrunk := ⟨rfl, rfl, rfl, rfl, rfl, rfl⟩

theorem SweepStands.storeTrunkChar {s : State} (h : SweepStands s) (k : SlotNo) (c : Byte) :
    SweepStands (s.storeTrunkChar k c) := by
  have hstored := h.of_same (fillSlot_sameSweep s k (s.slot k ++ [c]))
  simp only [State.storeTrunkChar]
  split
  · exact hstored.of_same ⟨rfl, rfl, rfl, rfl, rfl, rfl⟩
  · exact hstored.of_same (abandonTrunk_sameSweep _)
  · exact hstored.completeTrunk k

theorem SweepStands.trunkData {s : State} (h : SweepStands s) (c : Byte) (stop : Bool) :
    SweepStands (s.trunkData c stop) := by
  have htouched := h.of_same (touchTrunk_sameSweep s)
  unfold State.trunkData
  split
  · exact htouched
  · split
    · exact htouched.storeTrunkChar _ c
    · exact htouched.of_same (abandonTrunk_sameSweep _)
  · exact h

theorem SweepStands.requestArrives {s : State} (h : SweepStands s) (kind : Byte) (p : List Byte) :
    SweepStands (s.requestArrives kind p) := by
  have hmark := h.of_same (trunkMark_sameSweep s (downChar s.ownAddr) true)
  simp only [State.requestArrives]
  split
  · split
    · exact hmark.of_same ((fillSlot_sameSweep _ _ _).trans (abandonTrunk_sameSweep _))
    · exact (hmark.of_same (fillSlot_sameSweep _ _ _)).completeTrunk _
  · exact hmark

/-! ### The field port -/

/-- R119, R152: a poll starts only where it is due, and the scheduler moves on. -/
theorem SweepStands.startSweepTxn {s : State} (h : SweepStands s) : SweepStands s.startSweepTxn := by
  unfold State.startSweepTxn
  split
  · next k i hdue _ _ =>
    split
    · have hsending : SweepStands ((s.fillSlot k (sweepPoll i)).startSending .sweep k) :=
        h.of_same ⟨rfl, rfl, rfl, rfl, rfl, rfl⟩
      exact hsending.setSweep (h.record.pollStarted hdue _ _)
    · exact h
  · exact h

theorem SweepStands.startTxn {s : State} (h : SweepStands s) : SweepStands s.startTxn := by
  unfold State.startTxn
  split
  · split
    · exact h.of_same ⟨rfl, rfl, rfl, rfl, rfl, rfl⟩
    · exact h.startSweepTxn
  · exact h

theorem sendingEnd_sameSweep (s : State) : SameSweep s s.sendingEnd := by
  unfold State.sendingEnd
  (repeat' split) <;> exact ⟨rfl, rfl, rfl, rfl, rfl, rfl⟩

theorem enterGuard_sameSweep (s : State) (t : Txn) (o : TxnOutcome) : SameSweep s (s.enterGuard t o) :=
  ⟨rfl, rfl, rfl, rfl, rfl, rfl⟩

/-- R127, R128: a miss does not bear on the sweep. -/
theorem missTxn_sameSweep (s : State) (t : Txn) (k : SlotNo) : SameSweep s (s.missTxn t k) := by
  have hcounted : SameSweep s (match podOf t.target.toNat with
      | some i => (s.count .fieldMisses).countMiss i
      | none => s.count .fieldMisses) := by
    split <;> exact ⟨rfl, rfl, rfl, rfl, rfl, rfl⟩
  have hheld : ∀ (u : State) (i : PodIx) (p : List Byte), SameSweep u (u.sendHeld k i p) := fun u i p => by
    constructor <;> simp
  simp only [State.missTxn]
  split
  · exact (hcounted.trans (hheld _ _ _)).trans (enterGuard_sameSweep _ _ _)
  · exact hcounted.trans (enterGuard_sameSweep _ _ _)

theorem badReply_sameSweep (s : State) (t : Txn) (k : SlotNo) : SameSweep s (s.badReply t k) :=
  (count_sameSweep s _).trans (missTxn_sameSweep _ t k)

theorem SweepStands.forwardSample {s : State} (h : SweepStands s) (k : SlotNo) (i : PodIx) (reply : List Byte) :
    SweepStands (s.forwardSample k i reply) := by
  unfold State.forwardSample
  split
  · split
    · exact (h.of_same (count_sameSweep s _)).takeReply i _
    · split
      · exact h.takeReply i _
      · exact (h.takeReply i _).of_same ⟨rfl, rfl, rfl, rfl, rfl, rfl⟩
  · exact h.takeReply i _

/-- R123, TABLE 7-3: a good reply bears on the sweep as the sample engine takes it. -/
theorem SweepStands.goodReply {s : State} (h : SweepStands s) (t : Txn) (k : SlotNo) :
    SweepStands (s.goodReply t k) := by
  have hcounted := h.of_same (count_sameSweep s .fieldReplies)
  simp only [State.goodReply]
  refine SweepStands.of_same ?_ (enterGuard_sameSweep _ _ _)
  split
  · exact (hcounted.forwardSample k _ _).of_same ⟨rfl, rfl, rfl, rfl, rfl, rfl⟩
  · exact hcounted.of_same ⟨rfl, rfl, rfl, rfl, rfl, rfl⟩
  · exact hcounted.takeReply _ _
  · exact hcounted

theorem SweepStands.storeReplyChar {s : State} (h : SweepStands s) (t : Txn) (k : SlotNo) (c : Byte) :
    SweepStands (s.storeReplyChar t k c) := by
  have hstored := h.of_same (fillSlot_sameSweep s k (s.slot k ++ [c]))
  have hbad := hstored.of_same (badReply_sameSweep _ t k)
  simp only [State.storeReplyChar]
  split
  · exact hstored.of_same ⟨rfl, rfl, rfl, rfl, rfl, rfl⟩
  · exact hbad
  · split
    · exact hstored.goodReply t k
    · exact hbad

theorem touchField_sameSweep (s : State) : SameSweep s s.touchField := ⟨rfl, rfl, rfl, rfl, rfl, rfl⟩

/-- TABLE 7-4: a mark character at most ends a reply as a miss. -/
theorem fieldMark_sameSweep (s : State) (c : Byte) (stop : Bool) : SameSweep s (s.fieldMark c stop) := by
  have hbad := fun t k => (touchField_sameSweep s).trans (badReply_sameSweep s.touchField t k)
  unfold State.fieldMark
  split
  · split <;> exact ⟨rfl, rfl, rfl, rfl, rfl, rfl⟩
  · exact SameSweep.refl s
  · split <;> exact ⟨rfl, rfl, rfl, rfl, rfl, rfl⟩
  · split
    · exact (hbad _ _).trans (count_sameSweep _ _)
    · exact hbad _ _
  · split <;> exact ⟨rfl, rfl, rfl, rfl, rfl, rfl⟩

theorem SweepStands.fieldData {s : State} (h : SweepStands s) (c : Byte) (stop : Bool) :
    SweepStands (s.fieldData c stop) := by
  have htouched := h.of_same (touchField_sameSweep s)
  unfold State.fieldData
  split
  · exact htouched
  · exact h
  · exact htouched
  · split
    · exact htouched.storeReplyChar _ _ c
    · exact htouched.of_same (badReply_sameSweep _ _ _)
  · exact htouched.of_same ⟨rfl, rfl, rfl, rfl, rfl, rfl⟩

theorem fieldGap_sameSweep (s : State) : SameSweep s s.fieldGap := by
  unfold State.fieldGap
  split
  · split
    · exact badReply_sameSweep s _ _
    · exact SameSweep.refl s
  · exact SameSweep.refl s

theorem windowExpiry_sameSweep (s : State) : SameSweep s s.windowExpiry := by
  unfold State.windowExpiry
  split
  · split
    · exact missTxn_sameSweep s _ _
    · exact SameSweep.refl s
  · exact SameSweep.refl s

theorem guardExpiry_sameSweep (s : State) : SameSweep s s.guardExpiry := by
  unfold State.guardExpiry
  (repeat' split) <;> exact ⟨rfl, rfl, rfl, rfl, rfl, rfl⟩

/-! ### Every step -/

theorem sweepStands_keptByEffects : KeptByEffects SweepStands where
  queue _ _ h := h.of_same ⟨rfl, rfl, rfl, rfl, rfl, rfl⟩
  elapse _ _ h := h.of_same ⟨rfl, rfl, rfl, rfl, rfl, rfl⟩
  enterReset _ h := h.enterReset
  setUp _ trate addr h := h.enterReset.asked.setUp trate addr
  trunkMark s c stop _ h := h.of_same (trunkMark_sameSweep s c stop)
  trunkData _ c stop _ h := h.trunkData c stop
  trunkGap s _ h := h.of_same (trunkGap_sameSweep s)
  startTransmission s _ h := h.of_same (startTransmission_sameSweep s)
  endTransmission s _ h := h.of_same (endTransmission_sameSweep s)
  startTxn _ _ h := h.startTxn
  sendingEnd s _ h := h.of_same (sendingEnd_sameSweep s)
  fieldMark s c stop _ h := h.of_same (fieldMark_sameSweep s c stop)
  fieldData _ c stop _ h := h.fieldData c stop
  fieldGap s _ h := h.of_same (fieldGap_sameSweep s)
  windowExpiry s _ h := h.of_same (windowExpiry_sameSweep s)
  guardExpiry s _ h := h.of_same (guardExpiry_sameSweep s)
  staleExpiry s i _ h := h.of_same (staleExpiry_sameSweep s i)
  zoneExpiry s z _ h := h.of_same (zoneExpiry_sameSweep s z)
  onTimeExpiry s o _ h := h.of_same (onTimeExpiry_sameSweep s o)
  periodExpiry s o _ h := h.of_same (periodExpiry_sameSweep s o)
  delayExpiry _ _ h := h.delayExpiry
  paceExpiry _ _ h := h.paceExpiry
  storeExpiry _ cellsMatch _ h := h.storeExpiry cellsMatch
  requestArrives _ kind p _ h := h.requestArrives kind p

/-- Settles O47: every effect keeps the sweep record standing by the active list, together with the one range of
TABLE 10-2 that a START relies on, so every step does. -/
theorem everyStepKeepsSweepLawful : Obligations.EveryStepKeepsSweepLawful := by
  unfold Obligations.EveryStepKeepsSweepLawful
  intro s t hbanks hsweep hstep
  have hstands := sweepStands_keptByEffects.step ⟨roundsAsked_of_banksLawful hbanks, sweepLaw_iff.1 hsweep⟩ hstep
  exact sweepLaw_iff.2 hstands.record

end Sys2Proof.Machine
end

section
/-! PROOFS. SWEEP-CONTROL (R149, R150, R176) and the expiries of the sweep's timers (R151, R153). -/

namespace Sys2Proof.Machine

open Sys2Proof.Stated

/-! ### SWEEP-CONTROL (R149, R150, R176) -/

theorem takeRequest_start (s : State) :
    s.takeRequest 0x5C [0] =
      if s.active.program.startMode = .off ∨ s.active.sweepList = [] then (s, [4])
      else
        (s.setSweep (startedSweep s.active s.now),
          [0, BitVec.ofNat 8 (SweepState.code (startedSweep s.active s.now).state)]) := by
  rw [show s.takeRequest 0x5C [0] = (s.sweepStart.map State.sweepReport).getD (s.answer .badField) from rfl,
    sweepStart_eq]
  split <;> rfl

theorem takeRequest_stop (s : State) :
    s.takeRequest 0x5C [1] =
      (s.setSweep (stopSweep s.sweep), [0, BitVec.ofNat 8 (SweepState.code (stopSweep s.sweep).state)]) := rfl

theorem takeRequest_resume (s : State) :
    s.takeRequest 0x5C [2] =
      if s.sweep.state = .held then (s.setSweep (enterRunning s.sweep), [0, 2]) else (s, [4]) := by
  rw [show s.takeRequest 0x5C [2] = (s.sweepResume.map State.sweepReport).getD (s.answer .badField) from rfl,
    State.sweepResume]
  split <;> rfl

/-- R101, R107: a SWEEP-CONTROL that writes the sweep record alone is answered with that change alone. -/
theorem answerRequest_sweepWritten {s : State} {k : SlotNo} (h : ready s k) {dt : Nat} {p payload : List Byte}
    {w : SweepRecord}
    (htaken : (s.requestTaken dt k 0x5C p).takeRequest 0x5C p = ((s.requestTaken dt k 0x5C p).setSweep w, payload)) :
    (s.requestTaken dt k 0x5C p).answerRequest k 0x5C p = { answered s dt k 0x5C p payload with sweep := w } :=
  answerRequest_blocks h htaken

/-- R149: START. -/
theorem answerRequest_start {s : State} {k : SlotNo} (h : ready s k) (dt : Nat) :
    (s.requestTaken dt k 0x5C [0]).answerRequest k 0x5C [0] =
      if s.active.program.startMode = .off ∨ s.active.sweepList = [] then answered s dt k 0x5C [0] [4]
      else
        let w := startedSweep s.active (s.now + dt)
        { answered s dt k 0x5C [0] [0, BitVec.ofNat 8 (SweepState.code w.state)] with sweep := w } := by
  have htaken := takeRequest_start (s.requestTaken dt k 0x5C [0])
  split
  · next hrefused => exact answerRequest_unchanged h (htaken.trans (if_pos hrefused))
  · next hstarts => exact answerRequest_sweepWritten h (htaken.trans (if_neg hstarts))

/-- R150: STOP. -/
theorem answerRequest_stop {s : State} {k : SlotNo} (h : ready s k) (dt : Nat) :
    (s.requestTaken dt k 0x5C [1]).answerRequest k 0x5C [1] =
      if s.sweep.state = .delaying ∨ s.sweep.state = .running then
        { answered s dt k 0x5C [1] [0, 3] with
            sweep := { s.sweep with state := .held, delayTimer := none, paceTimer := none, due := false } }
      else answered s dt k 0x5C [1] [0, BitVec.ofNat 8 (SweepState.code s.sweep.state)] := by
  have hanswer := answerRequest_sweepWritten h (takeRequest_stop (s.requestTaken dt k 0x5C [1]))
  rw [show (s.requestTaken dt k 0x5C [1]).sweep = s.sweep from rfl, stopSweep] at hanswer
  rw [hanswer]
  split <;> rfl

/-- R150: RESUME. -/
theorem answerRequest_resume {s : State} {k : SlotNo} (h : ready s k) (dt : Nat) :
    (s.requestTaken dt k 0x5C [2]).answerRequest k 0x5C [2] =
      if s.sweep.state = .held then
        { answered s dt k 0x5C [2] [0, 2] with
            sweep := { s.sweep with state := .running, delayTimer := none, paceTimer := none, due := true } }
      else answered s dt k 0x5C [2] [4] := by
  have htaken := takeRequest_resume (s.requestTaken dt k 0x5C [2])
  split
  · next hheld => exact answerRequest_sweepWritten h (htaken.trans (if_pos hheld))
  · next hrefused => exact answerRequest_unchanged h (htaken.trans (if_neg hrefused))

/-- Settles O45, command by command. -/
theorem sweepControlMovesTheSweep : Obligations.SweepControlMovesTheSweep := by
  unfold Obligations.SweepControlMovesTheSweep
  intro dt s k h
  have hevent := fun c => event_request h dt 0x5C (p := [c]) (by simp)
  exact ⟨(hevent 0).trans (congrArg _ (answerRequest_start h dt)),
    (hevent 1).trans (congrArg _ (answerRequest_stop h dt)),
    (hevent 2).trans (congrArg _ (answerRequest_resume h dt))⟩

/-! ### The timers of the sweep (R151, R153) -/

/-- Settles O46: out of reset each expiry has its effect, which is guarded as the statement says. -/
theorem sweepTimersSetDue : Obligations.SweepTimersSetDue := by
  unfold Obligations.SweepTimersSetDue
  intro dt s hheld
  constructor
  · change event dt State.delayExpiry s = _
    rw [event_running hheld, State.delayExpiry]
    rfl
  · change event dt State.paceExpiry s = _
    rw [event_running hheld, State.paceExpiry]
    rfl

end Sys2Proof.Machine
end

section
/-! PROOFS. Configuration bodies (TABLE 5-10, TABLE 10-2): what refuses one, and the clamp, field by field (R161, R162). -/

namespace Sys2Proof.Machine

/-! ### The clamp (R161) -/

theorem clampNat_fst {lo hi : Nat} (h : lo ≤ hi) (x : Nat) : (clampNat lo hi x).1 = max lo (min hi x) := by
  simp only [clampNat]
  split
  · simp only; omega
  · split <;> simp only <;> omega

/-- R161: the clamp has acted exactly where it has changed the value. -/
theorem clampInt_snd_eq_false (lo hi x : Int) : (clampInt lo hi x).2 = false ↔ (clampInt lo hi x).1 = x := by
  simp only [clampInt]
  split
  · simp only [Bool.true_eq_false, false_iff]; omega
  · split
    · simp only [Bool.true_eq_false, false_iff]; omega
    · simp only

theorem clampNat_snd_eq_false (lo hi x : Nat) : (clampNat lo hi x).2 = false ↔ (clampNat lo hi x).1 = x := by
  simp only [clampNat]
  split
  · simp only [Bool.true_eq_false, false_iff]; omega
  · split
    · simp only [Bool.true_eq_false, false_iff]; omega
    · simp only

/-! ### Enumerated fields and indices (TABLE 5-8): the codes in range stand for one value each, and no other does -/

theorem exists_role {n : Nat} (h : n ≤ 3) : ∃ r, Role.ofCode n = some r ∧ Role.code r = n := by
  revert n; decide

theorem role_refused {n : Nat} (h : 3 < n) : Role.ofCode n = none := by
  obtain ⟨m, rfl⟩ := Nat.exists_eq_add_of_le' h
  rfl

theorem exists_bitRate {n : Nat} (h : n ≤ 3) : ∃ r, BitRate.ofCode n = some r ∧ BitRate.code r = n := by
  revert n; decide

theorem bitRate_refused {n : Nat} (h : 3 < n) : BitRate.ofCode n = none := by
  obtain ⟨m, rfl⟩ := Nat.exists_eq_add_of_le' h
  rfl

theorem exists_outputMode {n : Nat} (h : n ≤ 2) : ∃ m, OutputMode.ofCode n = some m ∧ OutputMode.code m = n := by
  revert n; decide

theorem outputMode_refused {n : Nat} (h : 2 < n) : OutputMode.ofCode n = none := by
  obtain ⟨m, rfl⟩ := Nat.exists_eq_add_of_le' h
  rfl

theorem exists_outputLevel {n : Nat} (hlow : 3 ≤ n) (hhigh : n ≤ 5) :
    ∃ l, OutputLevel.ofCode n = some l ∧ OutputLevel.code l = n := by
  revert n; decide

theorem outputLevel_refused_below {n : Nat} (h : n < 3) : OutputLevel.ofCode n = none := by
  revert n; decide

theorem outputLevel_refused_above {n : Nat} (h : 5 < n) : OutputLevel.ofCode n = none := by
  obtain ⟨m, rfl⟩ := Nat.exists_eq_add_of_le' h
  rfl

theorem exists_failAction {n : Nat} (h : n ≤ 2) : ∃ a, FailAction.ofCode n = some a ∧ FailAction.code a = n := by
  revert n; decide

theorem failAction_refused {n : Nat} (h : 2 < n) : FailAction.ofCode n = none := by
  obtain ⟨m, rfl⟩ := Nat.exists_eq_add_of_le' h
  rfl

theorem exists_startMode {n : Nat} (h : n ≤ 2) : ∃ m, StartMode.ofCode n = some m ∧ StartMode.code m = n := by
  revert n; decide

theorem startMode_refused {n : Nat} (h : 2 < n) : StartMode.ofCode n = none := by
  obtain ⟨m, rfl⟩ := Nat.exists_eq_add_of_le' h
  rfl

theorem exists_flag {n : Nat} (h : n ≤ 1) : ∃ b, boolOfCode n = some b ∧ flagNum b = n := by
  revert n; decide

theorem flag_refused {n : Nat} (h : 1 < n) : boolOfCode n = none := by
  obtain ⟨m, rfl⟩ := Nat.exists_eq_add_of_le' h
  rfl

/-- TABLE 2-1: the zone field of a pod entry. -/
theorem exists_zoneField {n : Nat} (h : n ≤ 16) : ∃ z, zoneFieldOf n = some z ∧ zoneNum z = n := by
  revert n; decide

theorem zoneField_refused {n : Nat} (h : 16 < n) : zoneFieldOf n = none := by
  rw [zoneFieldOf, if_neg (by omega), zoneOf, dif_neg (by omega)]
  rfl

/-- TABLE 5-10: the two flags of a pod entry, in the low bits of one character. -/
theorem podFlagBits {c : Byte} (h : c.toNat ≤ 3) : flagNum (c.getLsbD 0) + 2 * flagNum (c.getLsbD 1) = c.toNat := by
  revert c; decide

theorem readNum2_lt (p : List Byte) (i : Nat) : readNum2 p i < 65536 := by
  have hlow := (charAt p i).isLt
  have hhigh := (charAt p (i + 1)).isLt
  rw [readNum2]
  omega

/-! ### The four bodies -/

theorem readPodBody_refused {p : List Byte} {i : Nat}
    (h : 3 < (charAt p i).toNat ∨ 16 < (charAt p (i + 1)).toNat ∨ 3 < (charAt p (i + 17)).toNat) :
    readPodBody p i = none := by
  rw [readPodBody]
  rcases h with hrole | hzone | hflags
  · rw [role_refused hrole]
  · rw [zoneField_refused hzone]
    split <;> trivial
  · split
    · exact if_pos hflags
    · rfl

theorem readOutputBody_refused {p : List Byte} {i : Nat}
    (h : 2 < (charAt p i).toNat ∨ (charAt p (i + 3)).toNat < 3 ∨ 5 < (charAt p (i + 3)).toNat ∨
      2 < (charAt p (i + 9)).toNat) : readOutputBody p i = none := by
  rw [readOutputBody]
  rcases h with hmode | hlow | hhigh | hfail
  · rw [outputMode_refused hmode]
  · rw [outputLevel_refused_below hlow]
    split <;> trivial
  · rw [outputLevel_refused_above hhigh]
    split <;> trivial
  · rw [failAction_refused hfail]
    split <;> trivial

theorem readFieldBody_refused {p : List Byte} (h : 3 < (charAt p 0).toNat ∨ 2 < (charAt p 3).toNat) :
    readFieldBody p = none := by
  rw [readFieldBody]
  rcases h with hrate | hmode
  · rw [bitRate_refused hrate]
  · rw [startMode_refused hmode]
    split <;> trivial

/-- Settles O39, body by body: the enumerated fields decide whether it is refused, and the clamp gives every numeric field
and its own report. -/
theorem configurationBodiesClampEachField : Obligations.ConfigurationBodiesClampEachField := by
  unfold Obligations.ConfigurationBodiesClampEachField
  refine ⟨fun p i => ?_, fun p i => ?_, fun p i => ?_, fun p => ?_⟩
  · simp only
    split
    · next hrefused => exact readPodBody_refused hrefused
    · next htaken =>
      obtain ⟨hrole, hzone, hflags⟩ : _ ∧ _ ∧ _ := by simpa only [not_or, Nat.not_lt] using htaken
      obtain ⟨role, hrole, hrolecode⟩ := exists_role hrole
      obtain ⟨zone, hzone, hzonenum⟩ := exists_zoneField hzone
      refine ⟨_, _, by rw [readPodBody, hrole, hzone]; exact if_neg (Nat.not_lt.2 hflags), hrolecode, hzonenum,
        podFlagBits hflags, ?_⟩
      simp [clampInt_fst, clampNat_fst, clampInt_snd_eq_false, clampNat_snd_eq_false, and_assoc]
  · split
    · next hrefused => rw [readZoneBody, flag_refused hrefused]
    · next htaken =>
      obtain ⟨enabled, henabled, hcode⟩ := exists_flag (Nat.not_lt.1 htaken)
      refine ⟨_, _, by rw [readZoneBody, henabled], hcode, ?_⟩
      simp [clampNat_fst, clampNat_snd_eq_false, and_assoc]
  · split
    · next hrefused => exact readOutputBody_refused hrefused
    · next htaken =>
      obtain ⟨hmode, hlow, hhigh, hfail⟩ : _ ∧ _ ∧ _ ∧ _ := by simpa only [not_or, Nat.not_lt] using htaken
      obtain ⟨mode, hmode, hmodecode⟩ := exists_outputMode hmode
      obtain ⟨level, hlevel, hlevelcode⟩ := exists_outputLevel hlow hhigh
      obtain ⟨fail, hfail, hfailcode⟩ := exists_failAction hfail
      have hzoneSet : (BitVec.ofNat 16 (readNum2 p (i + 1))).toNat = readNum2 p (i + 1) := by
        rw [BitVec.toNat_ofNat, Nat.mod_eq_of_lt (readNum2_lt p (i + 1))]
      refine ⟨_, _, by rw [readOutputBody, hmode, hlevel, hfail], hmodecode, hzoneSet, hlevelcode, hfailcode, ?_⟩
      simp [clampInt_fst, clampNat_fst, clampInt_snd_eq_false, clampNat_snd_eq_false, and_assoc]
  · split
    · next hrefused => exact readFieldBody_refused hrefused
    · next htaken =>
      obtain ⟨hrate, hmode⟩ : _ ∧ _ := by simpa only [not_or, Nat.not_lt] using htaken
      obtain ⟨rate, hrate, hratecode⟩ := exists_bitRate hrate
      obtain ⟨mode, hmode, hmodecode⟩ := exists_startMode hmode
      have hrounds : min 255 (charAt p 4).toNat = (charAt p 4).toNat :=
        Nat.min_eq_right (Nat.le_of_lt_succ (charAt p 4).isLt)
      refine ⟨_, _, _, by rw [readFieldBody, hrate, hmode], hratecode, hmodecode, ?_⟩
      simp [clampNat_fst, clampNat_snd_eq_false, hrounds, and_assoc]

/-! ### What a write stores lies within its ranges (TABLE 10-2) -/

theorem clamped_mem {α : Type} [LinearOrder α] {lo hi x y : α} (h : y = max lo (min hi x)) (hrange : lo ≤ hi) :
    lo ≤ y ∧ y ≤ hi := h ▸ ⟨le_max_left lo _, max_le hrange (min_le_left hi x)⟩

theorem readPodBody_ranges {p : List Byte} {i : Nat} {e : PodEntry} {c : Bool} (h : readPodBody p i = some (e, c)) :
    podEntryRanges e = true := by
  obtain ⟨hclamps, _⟩ := configurationBodiesClampEachField
  specialize hclamps p i
  simp only [h] at hclamps
  split at hclamps
  · cases hclamps
  · obtain ⟨_, _, hread, _, _, _, hairGain, hairOffset, hrhGain, hrhOffset, hsurfGain, hsurfOffset, hweight, hlimit,
      _⟩ := hclamps
    cases hread
    exact decide_eq_true ⟨clamped_mem hairGain (by decide), clamped_mem hairOffset (by decide),
      clamped_mem hrhGain (by decide), clamped_mem hrhOffset (by decide), clamped_mem hsurfGain (by decide),
      clamped_mem hsurfOffset (by decide), hweight ▸ min_le_left 4 _, clamped_mem hlimit (by decide)⟩

theorem readZoneBody_ranges {p : List Byte} {i : Nat} {e : ZoneEntry} {c : Bool} (h : readZoneBody p i = some (e, c)) :
    zoneEntryRanges e = true := by
  obtain ⟨_, hclamps, _⟩ := configurationBodiesClampEachField
  specialize hclamps p i
  simp only [h] at hclamps
  split at hclamps
  · cases hclamps
  · obtain ⟨_, _, hread, _, hwatch, hwarn, halarm, hhysteresis, hesc, hrel, _⟩ := hclamps
    cases hread
    refine decide_eq_true ?_
    omega

theorem readOutputBody_ranges {p : List Byte} {i : Nat} {e : OutputEntry} {c : Bool}
    (h : readOutputBody p i = some (e, c)) : outputEntryRanges e = true := by
  obtain ⟨_, _, hclamps, _⟩ := configurationBodiesClampEachField
  specialize hclamps p i
  simp only [h] at hclamps
  split at hclamps
  · cases hclamps
  · obtain ⟨_, _, hread, _, _, _, _, honset, hfull, hperiod, _⟩ := hclamps
    cases hread
    exact decide_eq_true ⟨clamped_mem honset (by decide), clamped_mem hfull (by decide),
      clamped_mem hperiod (by decide)⟩

theorem readFieldBody_ranges {p : List Byte} {f : FieldSettings} {g : SweepProgram} {c : Bool}
    (h : readFieldBody p = some ((f, g), c)) :
    (1 ≤ g.rounds ∧ g.rounds ≤ 255) ∧ g.startDelay ≤ 600 ∧ (50 ≤ g.pace ∧ g.pace ≤ 10000) ∧
      20 ≤ f.window ∧ f.window ≤ 500 := by
  obtain ⟨_, _, _, hclamps⟩ := configurationBodiesClampEachField
  specialize hclamps p
  simp only [h] at hclamps
  split at hclamps
  · cases hclamps
  · obtain ⟨_, _, _, hread, _, _, hwindow, hrounds, hdelay, hpace, _⟩ := hclamps
    cases hread
    have hcount : (charAt p 4).toNat ≤ 255 := Nat.le_of_lt_succ (charAt p 4).isLt
    exact ⟨hrounds ▸ ⟨le_max_left 1 _, max_le (by decide) hcount⟩, hdelay ▸ min_le_left 600 _,
      clamped_mem hpace (by decide), clamped_mem hwindow (by decide)⟩

end Sys2Proof.Machine
end

section
/-! PROOFS. The writes to the shadow bank: an entry, the sweep list, and COPY-ACTIVE (R161 to R164). -/

namespace Sys2Proof.Machine

open Sys2Proof.Stated

/-! ### The answer to a write of the shadow bank -/

/-- R171: a request of a management kind whose length is right is carried out. -/
theorem takeRequest_carryOut {kind : Byte} {p : List Byte} (hkind : isRequestKind kind = true)
    (hlength : lengthAllowed kind p.length = true) (s : State) : s.takeRequest kind p = s.carryOut kind p := by
  rw [State.takeRequest, hkind, hlength]
  rfl

/-- R107: the response is written in the slot alike, whatever the shadow bank holds. -/
theorem setShadow_respond (s : State) (b : Bank) (k : SlotNo) (t : List Byte) :
    (((s.setShadow b).fillSlot k t).setTrunk .listening).joinUp k =
      (((s.fillSlot k t).setTrunk .listening).joinUp k).setShadow b := by
  simp only [State.setShadow, joinUp_selector, setTrunk_selector, fillSlot_selector]
  cases s.selector <;> rfl

/-- R101, R107: a request that writes the shadow bank alone is answered with that change alone. -/
theorem answerRequest_shadowWritten {s : State} {k : SlotNo} (h : ready s k) {dt : Nat} {kind : Byte}
    {p payload : List Byte} {b : Bank}
    (htaken : (s.requestTaken dt k kind p).takeRequest kind p = ((s.requestTaken dt k kind p).setShadow b, payload)) :
    (s.requestTaken dt k kind p).answerRequest k kind p = (answered s dt k kind p payload).setShadow b := by
  obtain ⟨_, hport, _⟩ := h
  have hslots := requestTaken_slots s dt k kind p (telegram (upChar s.ownAddr) kind payload)
  simp only [State.answerRequest, htaken, setShadow_respond]
  simp only [answered, ← hslots, ← hport]
  rfl

/-- R101, R107: the whole event of a request that is carried out and writes the shadow bank alone. -/
theorem event_shadowWritten {s : State} {k : SlotNo} (h : ready s k) {dt : Nat} {kind : Byte} {p payload : List Byte}
    {b : Bank} (hl : p.length ≤ 32) (hkind : isRequestKind kind = true) (hlength : lengthAllowed kind p.length = true)
    (hcarried : (s.requestTaken dt k kind p).carryOut kind p = ((s.requestTaken dt k kind p).setShadow b, payload)) :
    event dt (fun s => s.requestArrives kind p) s = .next ((answered s dt k kind p payload).setShadow b) :=
  (event_request h dt kind hl).trans
    (congrArg _ (answerRequest_shadowWritten h ((takeRequest_carryOut hkind hlength _).trans hcarried)))

/-- R101, R107: the whole event of a request that is carried out and changes nothing. -/
theorem event_unchanged {s : State} {k : SlotNo} (h : ready s k) {dt : Nat} {kind : Byte} {p payload : List Byte}
    (hl : p.length ≤ 32) (hkind : isRequestKind kind = true) (hlength : lengthAllowed kind p.length = true)
    (hcarried : (s.requestTaken dt k kind p).carryOut kind p = (s.requestTaken dt k kind p, payload)) :
    event dt (fun s => s.requestArrives kind p) s = .next (answered s dt k kind p payload) :=
  (event_request h dt kind hl).trans
    (congrArg _ (answerRequest_unchanged h ((takeRequest_carryOut hkind hlength _).trans hcarried)))

/-! ### Entry writes (R161, R162) -/

theorem writePod_taken {p : List Byte} {i : PodIx} {e : PodEntry} {c : Bool} (hpod : podOf (charAt p 0).toNat = some i)
    (hbody : readPodBody p 1 = some (e, c)) (s : State) :
    s.writePod p = (s.setShadow { s.shadow with pods := tset s.shadow.pods i e }, [if c then 1 else 0]) := by
  rw [State.writePod, hpod, hbody]
  cases c <;> rfl

theorem writePod_refused {p : List Byte}
    (h : ∀ i e c, podOf (charAt p 0).toNat = some i → readPodBody p 1 = some (e, c) → False) (s : State) :
    s.writePod p = (s, [4]) := by
  rw [State.writePod]
  split
  · next hpod hbody => exact (h _ _ _ hpod hbody).elim
  · rfl

theorem writeZone_taken {p : List Byte} {z : ZoneIx} {e : ZoneEntry} {c : Bool}
    (hzone : zoneOf (charAt p 0).toNat = some z) (hbody : readZoneBody p 1 = some (e, c)) (s : State) :
    s.writeZone p = (s.setShadow { s.shadow with zones := tset s.shadow.zones z e }, [if c then 1 else 0]) := by
  rw [State.writeZone, hzone, hbody]
  cases c <;> rfl

theorem writeZone_refused {p : List Byte}
    (h : ∀ z e c, zoneOf (charAt p 0).toNat = some z → readZoneBody p 1 = some (e, c) → False) (s : State) :
    s.writeZone p = (s, [4]) := by
  rw [State.writeZone]
  split
  · next hzone hbody => exact (h _ _ _ hzone hbody).elim
  · rfl

theorem writeOutput_taken {p : List Byte} {o : OutIx} {e : OutputEntry} {c : Bool}
    (houtput : outputOf (charAt p 0).toNat = some o) (hbody : readOutputBody p 1 = some (e, c)) (s : State) :
    s.writeOutput p = (s.setShadow { s.shadow with outputs := tset s.shadow.outputs o e }, [if c then 1 else 0]) := by
  rw [State.writeOutput, houtput, hbody]
  cases c <;> rfl

theorem writeOutput_refused {p : List Byte}
    (h : ∀ o e c, outputOf (charAt p 0).toNat = some o → readOutputBody p 1 = some (e, c) → False) (s : State) :
    s.writeOutput p = (s, [4]) := by
  rw [State.writeOutput]
  split
  · next houtput hbody => exact (h _ _ _ houtput hbody).elim
  · rfl

theorem writeField_taken {p : List Byte} {f : FieldSettings} {g : SweepProgram} {c : Bool}
    (hbody : readFieldBody p = some ((f, g), c)) (s : State) :
    s.writeField p = (s.setShadow { s.shadow with field := f, program := g }, [if c then 1 else 0]) := by
  rw [State.writeField, hbody]
  cases c <;> rfl

theorem writeField_refused {p : List Byte} (hbody : readFieldBody p = none) (s : State) :
    s.writeField p = (s, [4]) := by
  rw [State.writeField, hbody]
  rfl

/-- Settles O38, kind by kind: the request is carried out, and the write is taken or refused as the statement says. -/
theorem entryWritesChangeTheShadowBank : Obligations.EntryWritesChangeTheShadowBank := by
  unfold Obligations.EntryWritesChangeTheShadowBank
  intro dt p s k h
  refine ⟨fun hl => ?_, fun hl => ?_, fun hl => ?_, fun hl => ?_⟩
  · have hlength : lengthAllowed 0x55 p.length = true := decide_eq_true hl
    split
    · next hpod hbody => exact event_shadowWritten h (by omega) rfl hlength (writePod_taken hpod hbody _)
    · next hrefused => exact event_unchanged h (by omega) rfl hlength (writePod_refused hrefused _)
  · have hlength : lengthAllowed 0x56 p.length = true := decide_eq_true hl
    split
    · next hzone hbody => exact event_shadowWritten h (by omega) rfl hlength (writeZone_taken hzone hbody _)
    · next hrefused => exact event_unchanged h (by omega) rfl hlength (writeZone_refused hrefused _)
  · have hlength : lengthAllowed 0x57 p.length = true := decide_eq_true hl
    split
    · next houtput hbody => exact event_shadowWritten h (by omega) rfl hlength (writeOutput_taken houtput hbody _)
    · next hrefused => exact event_unchanged h (by omega) rfl hlength (writeOutput_refused hrefused _)
  · have hlength : lengthAllowed 0x59 p.length = true := decide_eq_true hl
    split
    · next hbody => exact event_shadowWritten h (by omega) rfl hlength (writeField_taken hbody _)
    · next hrefused => exact event_unchanged h (by omega) rfl hlength (writeField_refused hrefused _)

/-! ### COPY-ACTIVE (R164) -/

theorem setShadow_eq_of_active {s : State} {b : Bank} (h : s.active = b) :
    s.setShadow b = { s with bank0 := b, bank1 := b } := by
  unfold State.active at h
  unfold State.setShadow
  split
  · next hselector =>
    rw [hselector] at h
    rw [← h]
  · next hselector =>
    rw [hselector] at h
    rw [← h]

/-- Settles O42: the active bank is written over the shadow bank, so both are the active one. -/
theorem copyActiveMakesTheBanksEqual : Obligations.CopyActiveMakesTheBanksEqual := by
  unfold Obligations.CopyActiveMakesTheBanksEqual
  intro dt s k h
  have hcopied : exec (.copyActive dt []) s = .next ((answered s dt k 0x5A [] [0]).setShadow s.active) :=
    event_shadowWritten h (by simp) rfl rfl rfl
  exact hcopied.trans (congrArg _ (setShadow_eq_of_active (s := answered s dt k 0x5A [] [0]) rfl))

/-! ### The sweep list (R163) -/

theorem podOf_eq_none_iff {n : Nat} : podOf n = none ↔ n = 0 ∨ 63 < n := by
  rw [podOf, dite_eq_right_iff]
  simp only [reduceCtorEq, imp_false]
  omega

theorem podNum_podOf {n : Nat} (h : podOf n ≠ none) : podNum (podOf n) = n := by
  rw [Ne, podOf_eq_none_iff] at h
  rw [podOf, dif_pos (by omega)]
  exact Nat.sub_add_cancel (by omega)

/-- R163: the four refusals of a segment write, as they stand in the request. -/
theorem listWriteRefused_iff (start len : Nat) (addrs : List Byte) :
    listWriteRefused start len (addrs.map fun a => podOf a.toNat) = true ↔
      64 < len ∨ len < start ∨ 64 < start + addrs.length ∨ ∃ a ∈ addrs, a.toNat = 0 ∨ 63 < a.toNat := by
  simp [listWriteRefused, podOf_eq_none_iff, or_assoc]

@[simp] theorem writtenList_length (old : List (Option PodIx)) (start len : Nat) (addrs : List (Option PodIx)) :
    (writtenList old start len addrs).length = len := by simp [writtenList]

theorem writtenList_getD (old : List (Option PodIx)) (start : Nat) {len j : Nat} (addrs : List (Option PodIx))
    (h : j < len) : (writtenList old start len addrs).getD j none =
      if start ≤ j ∧ j < start + addrs.length then addrs.getD (j - start) none else old.getD j none := by
  simp [writtenList, List.getD_eq_getElem?_getD, h]

/-- R163: a place of the segment holds the address that the request has for it. -/
theorem podNum_segment {addrs : List Byte} (haddrs : ∀ a ∈ addrs, podOf a.toNat ≠ none) {n : Nat}
    (h : n < addrs.length) :
    podNum ((addrs.map fun a => podOf a.toNat).getD n none) = (charAt addrs n).toNat := by
  have hplace : (addrs.map fun a => podOf a.toNat).getD n none = podOf (charAt addrs n).toNat := by
    simp [charAt, List.getD_eq_getElem?_getD, h]
  have hmem : charAt addrs n ∈ addrs := by simp [charAt, List.getD_eq_getElem?_getD, h]
  rw [hplace, podNum_podOf (haddrs _ hmem)]

/-- R163: a sweep list write, refused or taken. -/
theorem writeList_eq (first len : Byte) (addrs : List Byte) (s : State) :
    s.writeList (first :: len :: addrs) =
      if listWriteRefused first.toNat len.toNat (addrs.map fun a => podOf a.toNat) then (s, [4])
      else (s.setShadow { s.shadow with
        sweepList := writtenList s.shadow.sweepList first.toNat len.toNat (addrs.map fun a => podOf a.toNat) }, [0]) := by
  rfl

/-- Settles O41: the refusals are the stated ones, and the written list is read place by place. -/
theorem sweepListWriteFillsPlaces : Obligations.SweepListWriteFillsPlaces := by
  unfold Obligations.SweepListWriteFillsPlaces
  intro dt first len addrs s k hl h
  have hlength : lengthAllowed 0x58 (first :: len :: addrs).length = true :=
    Bool.and_eq_true_iff.2 ⟨decide_eq_true (Nat.le_add_left 2 addrs.length), decide_eq_true (Nat.add_le_add_right hl 2)⟩
  have hfits : (first :: len :: addrs).length ≤ 32 := Nat.add_le_add_right (by omega) 2
  have hlist := writeList_eq first len addrs (s.requestTaken dt k 0x58 (first :: len :: addrs))
  split
  · next hrefused =>
    rw [if_pos ((listWriteRefused_iff _ _ _).2 hrefused)] at hlist
    exact event_unchanged h hfits rfl hlength hlist
  · next htaken =>
    rw [if_neg (mt (listWriteRefused_iff _ _ _).1 htaken)] at hlist
    have haddrs : ∀ a ∈ addrs, podOf a.toNat ≠ none := fun a ha hnone =>
      htaken (.inr (.inr (.inr ⟨a, ha, podOf_eq_none_iff.1 hnone⟩)))
    refine ⟨_, event_shadowWritten h hfits rfl hlength hlist, writtenList_length _ _ _ _, fun j hj => ?_⟩
    rw [writtenList_getD _ _ _ hj, List.length_map, apply_ite podNum]
    split
    · next hsegment => exact podNum_segment haddrs (by omega)
    · rfl

end Sys2Proof.Machine
end

section
/-! PROOFS. Swap validation (R165, TABLE 10-4): the first failing check, what passes, and the answer to a SWAP that
fails. -/

namespace Sys2Proof.Machine

open Sys2Proof.Stated

/-! ### Validation, check by check -/

/-- R165: zones go before outputs, and outputs before the sweep list. -/
theorem validate_eq_or (b : Bank) : validate b =
    (((List.finRange 16).findSome? fun z => (zoneFault b z).map fun r => (r, z.val + 1)).or
      ((List.finRange 4).findSome? fun o => (outputFault b o).map fun r => (r, o.val + 1))).or
      (b.sweepList.zipIdx.findSome? fun p => (listFault b p.1).map fun r => (r, p.2)) := by
  rw [validate]
  split
  · next hzone => simp [hzone]
  · next hzone =>
    split
    · next houtput => simp [hzone, houtput]
    · next houtput => simp [hzone, houtput]

/-- R165: a bank passes where none of its zones, outputs and places fails a check. -/
theorem validate_eq_none_iff (b : Bank) : validate b = none ↔
    (∀ z, zoneFault b z = none) ∧ (∀ o, outputFault b o = none) ∧ ∀ a ∈ b.sweepList, listFault b a = none := by
  simp only [validate_eq_or, Option.or_eq_none_iff, List.findSome?_eq_none_iff, Option.map_eq_none_iff,
    List.mem_finRange, true_imp_iff, and_assoc, List.forall_mem_zipIdx']
  rw [List.forall_mem_iff_getElem]

/-- R42: the contributors of a zone, counted. -/
theorem airMembers_length (b : Bank) (z : ZoneIx) : (Bank.airMembers b z).length = (List.finRange 63).countP fun i =>
    (tget b.pods i).zone = some z && ((tget b.pods i).role = .air || (tget b.pods i).role = .dual) := by
  have hrole : ∀ r, Role.isAir r = (decide (r = .air) || decide (r = .dual)) := fun r => by cases r <;> rfl
  simp only [Bank.airMembers, List.countP_eq_length_filter, hrole]

theorem surfaceMembers_length (b : Bank) (z : ZoneIx) :
    (Bank.surfaceMembers b z).length = (List.finRange 63).countP fun i =>
      (tget b.pods i).zone = some z && ((tget b.pods i).role = .surface || (tget b.pods i).role = .dual) := by
  have hrole : ∀ r, Role.isSurface r = (decide (r = .surface) || decide (r = .dual)) := fun r => by cases r <;> rfl
  simp only [Bank.surfaceMembers, List.countP_eq_length_filter, hrole]

/-- TABLE 10-4, order 1. -/
theorem zoneFault_eq_none_iff (b : Bank) (z : ZoneIx) : zoneFault b z = none ↔
    ((tget b.zones z).enabled = true →
      1 ≤ (Bank.airMembers b z).length ∧ (Bank.airMembers b z).length ≤ 8 ∧
      1 ≤ (Bank.surfaceMembers b z).length ∧ (Bank.surfaceMembers b z).length ≤ 8 ∧
      (tget b.zones z).alarm < (tget b.zones z).warn ∧ (tget b.zones z).warn < (tget b.zones z).watch) := by
  cases henabled : (tget b.zones z).enabled with
  | false => simp [zoneFault, henabled]
  | true =>
    simp only [zoneFault, henabled, Bool.not_true, Bool.false_eq_true, if_false, true_imp_iff]
    generalize (Bank.airMembers b z).length = air
    generalize (Bank.surfaceMembers b z).length = surf
    split_ifs <;> simp only [false_iff, true_iff] <;> omega

/-- TABLE 10-4, order 2. -/
theorem outputFault_eq_none_iff (b : Bank) (o : OutIx) : outputFault b o = none ↔
    ((tget b.outputs o).mode ≠ .off → (tget b.outputs o).zoneSet ≠ 0 ∧
      (∀ z : ZoneIx, (tget b.outputs o).zoneSet.getLsbD z.val = true → (tget b.zones z).enabled = true) ∧
      ((tget b.outputs o).mode = .proportional → (tget b.outputs o).full < (tget b.outputs o).onset)) := by
  have hmaps : mapsUnused b (tget b.outputs o) = false ↔
      ∀ z : ZoneIx, (tget b.outputs o).zoneSet.getLsbD z.val = true → (tget b.zones z).enabled = true := by
    simp [mapsUnused]
  simp only [outputFault, ← hmaps]
  split_ifs <;> simp_all

/-- TABLE 10-4, order 3. -/
theorem listFault_eq_none_iff (b : Bank) (a : Option PodIx) : listFault b a = none ↔
    ∃ i, a = some i ∧ (tget b.pods i).role ≠ .absent := by
  cases a <;> simp [listFault]

/-! ### The checks in the order of TABLE 10-4 -/

/-- TABLE 10-4: a failing check as the table's list has it. -/
def failedCheck (f : SwapReason × Nat) : Nat × Nat × Bool := (SwapReason.code f.1, f.2, true)

/-- The first failing check over a collection is that of its first member that fails one. -/
theorem find?_flatMap_checks {α : Type} {xs : List α} {checks : α → List (Nat × Nat × Bool)}
    {fault : α → Option (SwapReason × Nat)}
    (h : ∀ x, (checks x).find? (fun c => c.2.2) = (fault x).map failedCheck) :
    (xs.flatMap checks).find? (fun c => c.2.2) = (xs.findSome? fault).map failedCheck := by
  rw [List.find?_flatMap, List.map_findSome?]
  exact congrArg (xs.findSome? ·) (funext h)

/-- One check of the table, and then the rest. -/
theorem find?_check (code index : Nat) (fails : Bool) (rest : List (Nat × Nat × Bool)) :
    ((code, index, fails) :: rest).find? (fun c => c.2.2) =
      if fails then some (code, index, true) else rest.find? (fun c => c.2.2) := by cases fails <;> rfl

/-- R160: the places of a sweep list, each with its number. -/
theorem zipIdx_eq_map_range (l : List (Option PodIx)) :
    l.zipIdx = (List.range l.length).map fun j => (l.getD j none, j) := by
  refine List.ext_getElem (by simp) fun j hj _ => ?_
  have hplace : j < l.length := by simpa using hj
  simp [List.getD_eq_getElem?_getD, hplace]

/-- R165: the first check of TABLE 10-4 that fails is the one that validation reports. -/
theorem find?_swapChecks (b : Bank) : (swapChecks b).find? (fun c => c.2.2) = (validate b).map failedCheck := by
  rw [swapChecks, List.find?_append, List.find?_append, validate_eq_or, Option.map_or, Option.map_or,
    List.map_eq_flatMap, zipIdx_eq_map_range, List.findSome?_map]
  refine congrArg₂ Option.or (congrArg₂ Option.or (find?_flatMap_checks fun z => ?_) (find?_flatMap_checks fun o => ?_))
    (find?_flatMap_checks fun j => ?_)
  · simp only [zoneFault, airMembers_length, surfaceMembers_length, find?_check]
    generalize List.countP _ _ = air
    generalize List.countP _ _ = surf
    cases (tget b.zones z).enabled with
    | false => rfl
    | true =>
      simp only [Bool.true_and, ← Bool.decide_and, decide_eq_true_eq, Bool.not_eq_true', decide_eq_false_iff_not, ite_not,
        Bool.not_true, Bool.false_eq_true, if_false, List.find?_nil, apply_ite (Option.map _), Option.map_some,
        Option.map_none, failedCheck, SwapReason.code]
  · simp only [outputFault, mapsUnused, find?_check]
    cases (tget b.outputs o).mode <;> simp [apply_ite (Option.map _), failedCheck, SwapReason.code]
  · simp only [find?_check, Function.comp_apply]
    cases b.sweepList.getD j none with
    | none => rfl
    | some i => simp [listFault, apply_ite (Option.map _), failedCheck, SwapReason.code]

/-! ### A SWAP that fails (R165, R166) -/

theorem takeRequest_swap_refused {b : Bank} {f : SwapReason × Nat} (h : validate b = some f) {s : State}
    (hb : s.shadow = b) : s.takeRequest 0x5B [] = (s, [6, BitVec.ofNat 8 (SwapReason.code f.1), BitVec.ofNat 8 f.2]) := by
  rw [show s.takeRequest 0x5B [] = s.swapBanks from rfl, State.swapBanks, hb, h]
  rfl

/-- Settles O43: validation is the first failing check of the table, and it passes where each zone, output and place
meets its conditions. -/
theorem failedSwapChangesNothing : Obligations.FailedSwapChangesNothing := by
  unfold Obligations.FailedSwapChangesNothing
  intro dt s k h
  have hchecks := find?_swapChecks s.shadow
  refine ⟨fun reason index hfirst => ?_, ?_, ?_⟩
  · rw [hfirst, eq_comm, Option.map_eq_some_iff] at hchecks
    obtain ⟨⟨r, i⟩, hfails, hreport⟩ := hchecks
    simp only [failedCheck, Prod.mk.injEq, and_true] at hreport
    obtain ⟨rfl, rfl⟩ := hreport
    exact (event_request h dt 0x5B (by simp)).trans
      (congrArg _ (answerRequest_unchanged h (takeRequest_swap_refused hfails rfl)))
  · rw [← Option.map_eq_none_iff (f := failedCheck), ← hchecks, List.find?_eq_none]
    simp only [Bool.not_eq_true]
  · rw [validate_eq_none_iff]
    refine and_congr (forall_congr' fun z => (zoneFault_eq_none_iff _ z).trans ?_)
      (and_congr (forall_congr' fun o => outputFault_eq_none_iff _ o)
        (forall₂_congr fun a _ => listFault_eq_none_iff _ a))
    simp only [airMembers_length, surfaceMembers_length, List.countP_eq_length_filter, Bool.decide_and, Bool.decide_or]

end Sys2Proof.Machine
end

section
/-! PROOFS. Every effect keeps the banks fit and the settings store consistent, and so does every step. -/

namespace Sys2Proof.Machine

open Sys2Proof.Stated

/-! ### A bank within its ranges (TABLE 10-2, R160) -/

/-- TABLE 10-2: every field of a bank lies within its range. -/
structure BankInRange (b : Bank) : Prop where
  pods : ∀ i, podEntryRanges (tget b.pods i) = true
  zones : ∀ z, zoneEntryRanges (tget b.zones z) = true
  outputs : ∀ o, outputEntryRanges (tget b.outputs o) = true
  list : b.sweepList.length ≤ 64
  field : (1 ≤ b.program.rounds ∧ b.program.rounds ≤ 255) ∧ b.program.startDelay ≤ 600 ∧
    (50 ≤ b.program.pace ∧ b.program.pace ≤ 10000) ∧ 20 ≤ b.field.window ∧ b.field.window ≤ 500

theorem bankRanges_iff {b : Bank} : bankRanges b = true ↔ BankInRange b := by
  rw [bankRanges, decide_eq_true_iff]
  exact ⟨fun ⟨hpods, hzones, houtputs, hlist, hfield⟩ => ⟨hpods, hzones, houtputs, hlist, hfield⟩,
    fun h => ⟨h.pods, h.zones, h.outputs, h.list, h.field⟩⟩

theorem bankFit_iff {b : Bank} : bankFit b = true ↔ BankInRange b ∧ validate b = none := by
  rw [bankFit, Bool.and_eq_true, decide_eq_true_iff, bankRanges_iff]

/-- R170: the factory defaults are fit to be active. -/
theorem bankFit_factoryBank : bankFit factoryBank = true := by
  have hpod : ∀ i, tget factoryBank.pods i = factoryPodEntry := tget_tconst _
  have hzone : ∀ z, tget factoryBank.zones z = factoryZoneEntry := tget_tconst _
  have houtput : ∀ o, tget factoryBank.outputs o = factoryOutputEntry := tget_tconst _
  rw [bankFit_iff, validate_eq_none_iff]
  refine ⟨⟨fun i => ?_, fun z => ?_, fun o => ?_, by decide, by decide⟩, fun z => ?_, fun o => ?_, by simp [factoryBank]⟩
  · rw [hpod]; rfl
  · rw [hzone]; rfl
  · rw [houtput]; rfl
  · simp [zoneFault_eq_none_iff, hzone, factoryZoneEntry]
  · simp [outputFault_eq_none_iff, houtput, factoryOutputEntry]

/-- R163: a write that is not refused leaves a list of at most 64 places. -/
theorem length_of_listWriteRefused {start len : Nat} {addrs : List (Option PodIx)}
    (h : listWriteRefused start len addrs = false) : len ≤ 64 := by
  simp only [listWriteRefused, Bool.or_eq_false_iff, decide_eq_false_iff_not, Nat.not_lt] at h
  obtain ⟨⟨⟨hlen, _⟩, _⟩, _⟩ := h
  exact hlen

/-! ### The banks and the store of a state -/

/-- The fields of a state that hold the banks and the settings store. -/
def State.settings (s : State) : Bank × Bank × BankNo × Image × StoreState × Option Bank × Option Nat :=
  (s.bank0, s.bank1, s.selector, s.image, s.storeState, s.snapshot, s.storeTimer)

/-- R160, R167, R170, R181 to R184: both banks lie within their ranges, what is active or may become so is fit to be, and
the store's fields stand together. -/
structure BanksStand (s : State) : Prop where
  zero : BankInRange s.bank0
  one : BankInRange s.bank1
  active : validate s.active = none
  snapshot : ∀ b ∈ s.snapshot, bankFit b = true
  image : imageValid s.image = true → bankFit s.image.bank = true
  store : s.storeLawful

theorem banksStand_iff {s : State} : BanksStand s ↔ s.banksLawful ∧ s.storeLawful := by
  simp only [State.banksLawful, bankRanges_iff]
  exact ⟨fun h => ⟨⟨h.zero, h.one, h.active, h.snapshot, h.image⟩, h.store⟩,
    fun ⟨⟨hzero, hone, hactive, hsnapshot, himage⟩, hstore⟩ => ⟨hzero, hone, hactive, hsnapshot, himage, hstore⟩⟩

theorem BanksStand.of_settings {s t : State} (h : BanksStand s) (hsame : t.settings = s.settings) : BanksStand t := by
  simp only [State.settings, Prod.mk.injEq] at hsame
  obtain ⟨hzero, hone, hselector, himage, hstate, hsnapshot, htimer⟩ := hsame
  rw [banksStand_iff] at h ⊢
  simpa only [State.banksLawful, State.storeLawful, State.active, hzero, hone, hselector, himage, hstate, hsnapshot,
    htimer] using h

theorem BanksStand.activeInRange {s : State} (h : BanksStand s) : BankInRange s.active := by
  unfold State.active
  cases s.selector with
  | zero => exact h.zero
  | one => exact h.one

theorem BanksStand.shadowInRange {s : State} (h : BanksStand s) : BankInRange s.shadow := by
  unfold State.shadow
  cases s.selector with
  | zero => exact h.one
  | one => exact h.zero

theorem BanksStand.activeFit {s : State} (h : BanksStand s) : bankFit s.active = true :=
  bankFit_iff.2 ⟨h.activeInRange, h.active⟩

/-- R170: so is the bank that start-up makes active. -/
theorem BanksStand.startBankFit {s : State} (h : BanksStand s) : bankFit s.startBank = true := by
  unfold State.startBank
  split
  · next hvalid => exact h.image hvalid
  · exact bankFit_factoryBank

/-! ### What writes the banks or the store -/

/-- R161 to R164: a write of the shadow bank within its ranges. -/
theorem BanksStand.setShadow {s : State} (h : BanksStand s) {b : Bank} (hb : BankInRange b) :
    BanksStand (s.setShadow b) := by
  have hactive : validate (s.setShadow b).active = none := by rw [setShadow_active]; exact h.active
  unfold State.setShadow at hactive ⊢
  cases hselector : s.selector with
  | zero =>
    simp only [hselector] at hactive
    exact { h with one := hb, active := hactive }
  | one =>
    simp only [hselector] at hactive
    exact { h with zero := hb, active := hactive }

/-- R182: a STORE. -/
theorem BanksStand.beginStore {s : State} (h : BanksStand s) : BanksStand s.beginStore :=
  { h with
    snapshot := fun _ hb => Option.some_inj.1 hb ▸ h.activeFit
    image := fun hvalid => Bool.noConfusion ((imageValid_255 _).symm.trans hvalid)
    store := ⟨rfl, rfl, rfl, rfl⟩ }

/-- R183: a write that ends DONE leaves the snapshot in the image; one that ends FAILED leaves the image. -/
theorem BanksStand.storeExpiry {s : State} (h : BanksStand s) (cellsMatch : Bool) :
    BanksStand (s.storeExpiry cellsMatch) := by
  unfold State.storeExpiry
  split
  · split
    · next b hsnapshot =>
      exact
        { h with
          snapshot := fun b hb => absurd hb (Option.not_mem_none b)
          image := fun _ => h.snapshot b hsnapshot
          store := ⟨rfl, rfl⟩ }
    · exact
        { h with
          snapshot := fun b hb => absurd hb (Option.not_mem_none b)
          store := ⟨rfl, rfl⟩ }
  · exact h

/-- R184: a full reset stops a write, and leaves the banks and the image. -/
theorem BanksStand.enterReset {s : State} (h : BanksStand s) : BanksStand s.enterReset :=
  { h with
    snapshot := fun b hb => absurd hb (Option.not_mem_none b)
    store := ⟨rfl, rfl⟩ }

/-- R170, R186: start-up makes one fit bank both banks. -/
theorem BanksStand.setUp {s : State} (h : BanksStand s) (trate : BitVec 2) (addr : BitVec 6) :
    BanksStand (s.setUp trate addr) := by
  obtain ⟨hrange, hvalid⟩ := bankFit_iff.1 h.startBankFit
  rw [State.setUp, automaticStart_eq rfl]
  exact
    { zero := hrange
      one := hrange
      active := hvalid
      snapshot := fun b hb => absurd hb (Option.not_mem_none b)
      image := h.image
      store := ⟨rfl, rfl⟩ }

/-- R165, R167: a swap makes a bank active that passes validation. -/
theorem BanksStand.flip {s : State} (h : BanksStand s) (hvalid : validate s.shadow = none) : BanksStand s.flip := by
  obtain ⟨pods, zones, changeSet, alert, outputs, _, hflip⟩ := flip_eq s
  rw [hflip]
  have hactive : validate { s with selector := BankNo.other s.selector }.active = none := by rw [active_other, hvalid]
  exact { h with active := hactive }

/-! ### What leaves the banks and the store as they are -/

section

variable (s : State)

@[simp] theorem count_settings (c : Counter) : (s.count c).settings = s.settings := rfl
@[simp] theorem setPod_settings (i : PodIx) (r : PodRecord) : (s.setPod i r).settings = s.settings := rfl
@[simp] theorem countMiss_settings (i : PodIx) : (s.countMiss i).settings = s.settings := rfl
@[simp] theorem setSweep_settings (w : SweepRecord) : (s.setSweep w).settings = s.settings := rfl
@[simp] theorem fillSlot_settings (k : SlotNo) (t : List Byte) : (s.fillSlot k t).settings = s.settings := rfl
@[simp] theorem joinUp_settings (k : SlotNo) : (s.joinUp k).settings = s.settings := rfl
@[simp] theorem setTrunk_settings (p : TrunkPort) : (s.setTrunk p).settings = s.settings := rfl
@[simp] theorem setField_settings (p : FieldPort) : (s.setField p).settings = s.settings := rfl
@[simp] theorem touchTrunk_settings : s.touchTrunk.settings = s.settings := rfl
@[simp] theorem touchField_settings : s.touchField.settings = s.settings := rfl
@[simp] theorem abandonTrunk_settings : s.abandonTrunk.settings = s.settings := rfl
@[simp] theorem enterGuard_settings (t : Txn) (o : TxnOutcome) : (s.enterGuard t o).settings = s.settings := rfl
@[simp] theorem restartGuard_settings (t : Txn) : (s.restartGuard t).settings = s.settings := rfl
@[simp] theorem unsolicited_settings : s.unsolicited.settings = s.settings := rfl

@[simp] theorem putAndHandOver_settings (z : ZoneIx) (r : ZoneRecord) :
    (s.putAndHandOver z r).settings = s.settings := by simp [State.settings]
@[simp] theorem evaluatePodZone_settings (i : PodIx) : (s.evaluatePodZone i).settings = s.settings := by
  simp [State.settings]
@[simp] theorem takeReply_settings (i : PodIx) (p : List Byte) : (s.takeReply i p).settings = s.settings := by
  simp [State.settings]
@[simp] theorem forwardSample_settings (k : SlotNo) (i : PodIx) (reply : List Byte) :
    (s.forwardSample k i reply).settings = s.settings := by simp [State.settings]
@[simp] theorem sendHeld_settings (k : SlotNo) (i : PodIx) (stored : List Byte) :
    (s.sendHeld k i stored).settings = s.settings := by simp [State.settings]

theorem restartField_settings : s.restartField.settings = s.settings := by
  obtain ⟨zones, changeSet, alert, outputs, _, hrestart⟩ := restartField_eq s
  rw [hrestart]
  rfl

theorem offerTrunk_settings (c : Byte) : (s.offerTrunk c).settings = s.settings := by
  unfold State.offerTrunk
  (repeat' split) <;> rfl

@[simp] theorem trunkMark_settings (c : Byte) (stop : Bool) : (s.trunkMark c stop).settings = s.settings := by
  unfold State.trunkMark
  (repeat' split) <;> simp [offerTrunk_settings]

theorem trunkGap_settings : s.trunkGap.settings = s.settings := by
  unfold State.trunkGap
  (repeat' split) <;> rfl

theorem startTransmission_settings : s.startTransmission.settings = s.settings := by
  unfold State.startTransmission
  (repeat' split) <;> rfl

theorem endTransmission_settings : s.endTransmission.settings = s.settings := by
  unfold State.endTransmission
  (repeat' split) <;> rfl

theorem startTxn_settings : s.startTxn.settings = s.settings := by
  unfold State.startTxn State.startSweepTxn
  (repeat' split) <;> rfl

theorem sendingEnd_settings : s.sendingEnd.settings = s.settings := by
  unfold State.sendingEnd
  (repeat' split) <;> rfl

/-- R127, R128: a miss. -/
@[simp] theorem missTxn_settings (t : Txn) (k : SlotNo) : (s.missTxn t k).settings = s.settings := by
  simp only [State.missTxn, enterGuard_settings]
  (repeat' split) <;> simp

@[simp] theorem badReply_settings (t : Txn) (k : SlotNo) : (s.badReply t k).settings = s.settings :=
  missTxn_settings _ t k

/-- R123, TABLE 7-3: a good reply. -/
@[simp] theorem goodReply_settings (t : Txn) (k : SlotNo) : (s.goodReply t k).settings = s.settings := by
  simp only [State.goodReply, enterGuard_settings]
  split <;> simp

theorem storeReplyChar_settings (t : Txn) (k : SlotNo) (c : Byte) :
    (s.storeReplyChar t k c).settings = s.settings := by
  simp only [State.storeReplyChar]
  (repeat' split) <;> simp

theorem fieldMark_settings (c : Byte) (stop : Bool) : (s.fieldMark c stop).settings = s.settings := by
  unfold State.fieldMark
  (repeat' split) <;> simp

theorem fieldData_settings (c : Byte) (stop : Bool) : (s.fieldData c stop).settings = s.settings := by
  unfold State.fieldData
  (repeat' split) <;> simp [storeReplyChar_settings]

theorem fieldGap_settings : s.fieldGap.settings = s.settings := by
  unfold State.fieldGap
  (repeat' split) <;> simp

theorem windowExpiry_settings : s.windowExpiry.settings = s.settings := by
  unfold State.windowExpiry
  (repeat' split) <;> simp

theorem guardExpiry_settings : s.guardExpiry.settings = s.settings := by
  unfold State.guardExpiry
  (repeat' split) <;> rfl

theorem staleExpiry_settings (i : PodIx) : (s.staleExpiry i).settings = s.settings := by
  unfold State.staleExpiry
  split <;> simp

theorem zoneExpiry_settings (z : ZoneIx) : (s.zoneExpiry z).settings = s.settings := by
  unfold State.zoneExpiry
  (repeat' split) <;> simp

theorem onTimeExpiry_settings (o : OutIx) : (s.onTimeExpiry o).settings = s.settings := by
  unfold State.onTimeExpiry
  split <;> rfl

theorem periodExpiry_settings (o : OutIx) : (s.periodExpiry o).settings = s.settings := by
  unfold State.periodExpiry
  split <;> rfl

theorem delayExpiry_settings : s.delayExpiry.settings = s.settings := by
  unfold State.delayExpiry
  split <;> rfl

theorem paceExpiry_settings : s.paceExpiry.settings = s.settings := by
  unfold State.paceExpiry
  split <;> rfl

end

/-! ### Requests, and the trunk port that takes them -/

/-- R171: taking a request, whatever it leaves. -/
theorem Requested.banksStand {s t : State} (hrequest : Requested s t) (h : BanksStand s) : BanksStand t := by
  have hshadow := h.shadowInRange
  cases hrequest with
  | unchanged | statusRead | inhibited | released | countersCleared | sweepStopped => exact h.of_settings rfl
  | podWritten i hbody =>
    have hentries := tset_forall (P := fun _ e => podEntryRanges e = true) (i := i) (readPodBody_ranges hbody)
      hshadow.pods
    exact h.setShadow { hshadow with pods := hentries }
  | zoneWritten z hbody =>
    have hentries := tset_forall (P := fun _ e => zoneEntryRanges e = true) (i := z) (readZoneBody_ranges hbody)
      hshadow.zones
    exact h.setShadow { hshadow with zones := hentries }
  | outputWritten o hbody =>
    have hentries := tset_forall (P := fun _ e => outputEntryRanges e = true) (i := o) (readOutputBody_ranges hbody)
      hshadow.outputs
    exact h.setShadow { hshadow with outputs := hentries }
  | listWritten hfits =>
    exact h.setShadow { hshadow with list := (writtenList_length _ _ _ _).trans_le (length_of_listWriteRefused hfits) }
  | fieldWritten hbody => exact h.setShadow { hshadow with field := readFieldBody_ranges hbody }
  | copied => exact h.setShadow h.activeInRange
  | swapped hvalid => exact h.flip hvalid
  | sweepStarted hstart =>
    obtain ⟨w, rfl⟩ := sweepStart_eq_setSweep hstart
    exact h.of_settings rfl
  | sweepResumed hresume =>
    obtain ⟨w, rfl⟩ := sweepResume_eq_setSweep hresume
    exact h.of_settings rfl
  | storeBegun => exact h.beginStore
  | fieldRestarted => exact h.of_settings (restartField_settings s)

/-- R107: a request is taken, and its slot then holds the response. -/
theorem BanksStand.answerRequest {s : State} (h : BanksStand s) (k : SlotNo) (kind : Byte) (p : List Byte) :
    BanksStand (s.answerRequest k kind p) :=
  ((takeRequest_requested s kind p).banksStand h).of_settings rfl

/-- R141: of the complete telegrams a good one to the own address alone bears on the banks. -/
theorem BanksStand.completeTrunk {s : State} (h : BanksStand s) (k : SlotNo) : BanksStand (s.completeTrunk k) := by
  have hcounted : BanksStand (s.count .trunkGood) := h.of_settings rfl
  simp only [State.completeTrunk]
  split
  · split
    · exact hcounted.answerRequest k _ _
    · exact h.of_settings rfl
  · exact h.of_settings rfl

theorem BanksStand.storeTrunkChar {s : State} (h : BanksStand s) (k : SlotNo) (c : Byte) :
    BanksStand (s.storeTrunkChar k c) := by
  have hstored : BanksStand (s.fillSlot k (s.slot k ++ [c])) := h.of_settings (fillSlot_settings s k _)
  simp only [State.storeTrunkChar]
  split
  · exact hstored.of_settings (setTrunk_settings _ _)
  · exact hstored.of_settings (abandonTrunk_settings _)
  · exact hstored.completeTrunk k

theorem BanksStand.trunkData {s : State} (h : BanksStand s) (c : Byte) (stop : Bool) :
    BanksStand (s.trunkData c stop) := by
  have htouched : BanksStand s.touchTrunk := h.of_settings rfl
  unfold State.trunkData
  split
  · exact htouched
  · split
    · exact htouched.storeTrunkChar _ c
    · exact htouched.of_settings (abandonTrunk_settings _)
  · exact h

theorem BanksStand.requestArrives {s : State} (h : BanksStand s) (kind : Byte) (p : List Byte) :
    BanksStand (s.requestArrives kind p) := by
  have hmark : BanksStand (s.trunkMark (downChar s.ownAddr) true) := h.of_settings (trunkMark_settings s _ _)
  simp only [State.requestArrives]
  split
  · split
    · exact hmark.of_settings (by simp)
    · exact (hmark.of_settings (fillSlot_settings _ _ _)).completeTrunk _
  · exact hmark

/-! ### Every step -/

theorem banksStand_keptByEffects : KeptByEffects BanksStand where
  queue _ _ h := h.of_settings rfl
  elapse _ _ h := h.of_settings rfl
  enterReset _ h := h.enterReset
  setUp _ trate addr h := h.enterReset.setUp trate addr
  trunkMark s c stop _ h := h.of_settings (trunkMark_settings s c stop)
  trunkData _ c stop _ h := h.trunkData c stop
  trunkGap s _ h := h.of_settings (trunkGap_settings s)
  startTransmission s _ h := h.of_settings (startTransmission_settings s)
  endTransmission s _ h := h.of_settings (endTransmission_settings s)
  startTxn s _ h := h.of_settings (startTxn_settings s)
  sendingEnd s _ h := h.of_settings (sendingEnd_settings s)
  fieldMark s c stop _ h := h.of_settings (fieldMark_settings s c stop)
  fieldData s c stop _ h := h.of_settings (fieldData_settings s c stop)
  fieldGap s _ h := h.of_settings (fieldGap_settings s)
  windowExpiry s _ h := h.of_settings (windowExpiry_settings s)
  guardExpiry s _ h := h.of_settings (guardExpiry_settings s)
  staleExpiry s i _ h := h.of_settings (staleExpiry_settings s i)
  zoneExpiry s z _ h := h.of_settings (zoneExpiry_settings s z)
  onTimeExpiry s o _ h := h.of_settings (onTimeExpiry_settings s o)
  periodExpiry s o _ h := h.of_settings (periodExpiry_settings s o)
  delayExpiry s _ h := h.of_settings (delayExpiry_settings s)
  paceExpiry s _ h := h.of_settings (paceExpiry_settings s)
  storeExpiry _ cellsMatch _ h := h.storeExpiry cellsMatch
  requestArrives _ kind p _ h := h.requestArrives kind p

/-- Settles O50: of the effects a request, a reset, a start-up and the end of a write alone bear on the banks and the
store, and each leaves them lawful. -/
theorem everyStepKeepsBanksLawful : Obligations.EveryStepKeepsBanksLawful := by
  unfold Obligations.EveryStepKeepsBanksLawful
  intro s t hbanks hstore hstep
  exact banksStand_iff.1 (banksStand_keptByEffects.step (banksStand_iff.2 ⟨hbanks, hstore⟩) hstep)

end Sys2Proof.Machine
end

section
/-! PROOFS. The requests that read a bank, the part or the counters, and STORE: IDENTIFY (R172), READ-ENTRY (R174),
STORE (R177, R182) and READ-COUNTERS (R178). -/

namespace Sys2Proof.Machine

open Sys2Proof.Stated

/-! ### READ-ENTRY (R174) -/

/-- R174: selector 0 is the active bank, 1 the shadow bank, and no other code selects a bank. -/
theorem selectedBank_eq (s : State) (sel : Byte) :
    s.selectedBank sel.toNat = if 1 < sel.toNat then none else some (if sel = 0 then s.active else s.shadow) := by
  simp only [BitVec.toNat_eq, BitVec.reduceToNat]
  match sel.toNat with
  | 0 => rfl
  | 1 => rfl
  | n + 2 => exact (if_pos (by omega)).symm

/-- R174, TABLE 5-11: the body by the table's character. -/
theorem entryReport_eq (b : Bank) (table : Byte) (index : Nat) :
    entryReport b table.toNat index =
      if table = 0 then (podOf index).map fun i => podBody (tget b.pods i)
      else if table = 1 then (zoneOf index).map fun z => zoneBody (tget b.zones z)
      else if table = 2 then (outputOf index).map fun o => outputBody (tget b.outputs o)
      else if table = 3 then
        if 63 < index then none
        else some (num1 b.sweepList.length ++
          (List.range 28).flatMap fun j => num1 (podNum (b.sweepList.getD (index + j) none)))
      else if table = 4 then some (fieldBody b.field b.program)
      else none := by
  simp only [BitVec.toNat_eq, BitVec.reduceToNat]
  match table.toNat with
  | 0 => rfl
  | 1 => rfl
  | 2 => rfl
  | 3 => rfl
  | 4 => rfl
  | n + 5 => rfl

/-- R174: the entry where the bank, the table and the index are in range, and BAD-FIELD elsewhere. -/
theorem askEntry_eq (s : State) (sel table index : Byte) :
    s.askEntry [sel, table, index] =
      (s, ((s.selectedBank sel.toNat).bind fun b => entryReport b table.toNat index.toNat).elim [4] (0 :: ·)) := by
  rw [State.askEntry, show charAt [sel, table, index] 0 = sel from rfl,
    show charAt [sel, table, index] 1 = table from rfl, show charAt [sel, table, index] 2 = index from rfl]
  cases s.selectedBank sel.toNat with
  | none => rfl
  | some b =>
    simp only [Option.bind_some]
    cases entryReport b table.toNat index.toNat <;> rfl

/-- Settles O37: the request is carried out in a state with the banks that it found, and changes nothing. -/
theorem readEntryReportsTheEntry : Obligations.ReadEntryReportsTheEntry := by
  unfold Obligations.ReadEntryReportsTheEntry
  intro dt sel table index s k h b body
  have hbody : ((s.selectedBank sel.toNat).bind fun b => entryReport b table.toNat index.toNat) = body := by
    rw [selectedBank_eq]
    simp only [body]
    split
    · rfl
    · exact entryReport_eq b table index.toNat
  have hbanks : (s.requestTaken dt k 0x54 [sel, table, index]).selectedBank sel.toNat = s.selectedBank sel.toNat := rfl
  have hcarried := askEntry_eq (s.requestTaken dt k 0x54 [sel, table, index]) sel table index
  rw [hbanks, hbody] at hcarried
  have hevent := event_unchanged (dt := dt) (kind := 0x54) (p := [sel, table, index]) h (by simp) rfl rfl hcarried
  refine hevent.trans (congrArg _ ?_)
  cases body <;> rfl

/-! ### Requests that write the settings store or the counters -/

/-- R101, R107: the whole event of a request that is carried out and changes no more than the settings store and the
counters. -/
theorem event_storeOrCounters {s : State} {k : SlotNo} (h : ready s k) {dt : Nat} {kind : Byte} {p payload : List Byte}
    {image : Image} {storeState : StoreState} {snapshot : Option Bank} {storeTimer : Option Nat} {freeCount : Nat}
    {counters : Vector Nat 15} (hl : p.length ≤ 32) (hkind : isRequestKind kind = true)
    (hlength : lengthAllowed kind p.length = true)
    (hcarried : (s.requestTaken dt k kind p).carryOut kind p =
      ({ s.requestTaken dt k kind p with
          image := image, storeState := storeState, snapshot := snapshot, storeTimer := storeTimer,
          freeCount := freeCount, counters := counters }, payload)) :
    event dt (fun s => s.requestArrives kind p) s = .next
      { answered s dt k kind p payload with
          image := image, storeState := storeState, snapshot := snapshot, storeTimer := storeTimer,
          freeCount := freeCount, counters := counters } := by
  have ⟨_, hport, _⟩ := h
  have hslots := requestTaken_slots s dt k kind p (telegram (upChar s.ownAddr) kind payload)
  rw [event_request h dt kind hl]
  simp only [State.answerRequest, takeRequest_carryOut hkind hlength, hcarried, answered, ← hslots, ← hport]
  rfl

/-! ### STORE (R177, R182) -/

theorem storeRequest_busy {s : State} (h : s.storeState = .writing) : s.storeRequest = (s, [5]) := if_pos h

theorem storeRequest_taken {s : State} (h : s.storeState ≠ .writing) : s.storeRequest = (s.beginStore, [0]) :=
  if_neg h

/-- R91, R181: an image with a check character of 255 is not valid, whatever its cells hold. -/
theorem imageValid_checkA_255 (cells : Bank) (checkB : Byte) :
    imageValid { bank := cells, checkA := 255, checkB := checkB } = false := rfl

/-- Settles O48: a taken STORE is `State.beginStore`, whose cells are the free value drawn for it. -/
theorem storeBeginsWriting : Obligations.StoreBeginsWriting := by
  unfold Obligations.StoreBeginsWriting
  intro dt s k h
  refine ⟨fun hwriting => ?_, fun hidle => ⟨Config.imageCells s.freeCount, ?_, imageValid_checkA_255 _ _⟩⟩
  · exact event_unchanged h (by simp) rfl rfl (storeRequest_busy (s := s.requestTaken dt k 0x5E []) hwriting)
  · exact event_storeOrCounters h (by simp) rfl rfl (storeRequest_taken (s := s.requestTaken dt k 0x5E []) hidle)

/-! ### READ-COUNTERS (R178) -/

/-- The rows of a table in the order of their indices. -/
theorem toList_eq_map_tget {α : Type} {n : Nat} (v : Vector α n) : v.toList = (List.finRange n).map (tget v) := by
  refine List.ext_getElem (by simp) fun i _ _ => ?_
  simp [tget, Vector.get_eq_getElem]

theorem counterBody_eq (s : State) :
    s.counterBody = (List.finRange 15).flatMap fun i =>
      [BitVec.ofNat 8 (tget s.counters i), BitVec.ofNat 8 (tget s.counters i / 256)] := by
  rw [State.counterBody, toList_eq_map_tget, List.flatMap_map]
  rfl

/-- R178: the counters are kept by code 0 and cleared by code 1 after the snapshot; no other code is taken. -/
theorem askCounters_eq (s : State) (c : Byte) :
    s.askCounters [c] =
      if c = 0 then (s, 0 :: s.counterBody)
      else if c = 1 then ({ s with counters := tconst 15 0 }, 0 :: s.counterBody)
      else (s, [4]) := by
  rw [State.askCounters, show charAt [c] 0 = c from rfl]
  simp only [BitVec.toNat_eq, BitVec.reduceToNat]
  match c.toNat with
  | 0 => rfl
  | 1 => rfl
  | n + 2 => rfl

/-- Settles O51: the snapshot is of the state in which the request is taken, where it has itself been counted. -/
theorem readCountersReportsThenClears : Obligations.ReadCountersReportsThenClears := by
  unfold Obligations.ReadCountersReportsThenClears
  intro dt c s k h counted t
  have hcarried : (s.requestTaken dt k 0x5F [c]).carryOut 0x5F [c] = _ := askCounters_eq _ c
  rw [counterBody_eq] at hcarried
  change event dt (fun s => s.requestArrives 0x5F [c]) s = _
  by_cases hkept : c = 0
  · rw [if_pos hkept] at hcarried ⊢
    exact event_unchanged h (by simp) rfl rfl hcarried
  · rw [if_neg hkept] at hcarried ⊢
    by_cases hcleared : c = 1
    · rw [if_pos hcleared] at hcarried ⊢
      exact event_storeOrCounters h (by simp) rfl rfl hcarried
    · rw [if_neg hcleared] at hcarried ⊢
      exact event_unchanged h (by simp) rfl rfl hcarried

/-! ### IDENTIFY (R172) -/

/-- R137: the own address as a character. -/
theorem num1_ownAddr (s : State) :
    num1 s.ownAddr.toNat = [if s.addrStrap = 63 then 126 else 64 + s.addrStrap.setWidth 8] := by
  have hstraps : ∀ a : BitVec 6,
      num1 (if a = 63 then 126 else 64 + a.setWidth 7 : BitVec 7).toNat =
        [if a = 63 then 126 else 64 + a.setWidth 8] := by decide
  exact hstraps s.addrStrap

theorem num1_bankNo (b : BankNo) : num1 (BankNo.code b) = [match b with | .zero => 0 | .one => 1] := by
  cases b <;> rfl

theorem askIdentify_eq (s : State) :
    s.askIdentify = (s,
      [0, 0x88, 0x0C, 2, 0, (if s.addrStrap = 63 then 126 else 64 + s.addrStrap.setWidth 8), s.trate.setWidth 8,
        (match s.selector with | .zero => 0 | .one => 1)]) := by
  rw [State.askIdentify, num1_ownAddr, num1_bankNo, num1, BitVec.ofNat_toNat]
  rfl

/-- Settles O33. -/
theorem identifyReportsThePart : Obligations.IdentifyReportsThePart := by
  unfold Obligations.IdentifyReportsThePart
  intro dt s k h
  exact event_unchanged h (by simp) rfl rfl (askIdentify_eq (s.requestTaken dt k 0x50 []))

end Sys2Proof.Machine
end

section
/-! PROOFS. An event while the part is held in reset (R185), the end of a write (R183), and the laws at reset (R186). -/

namespace Sys2Proof.Machine

open Sys2Proof.Stated

/-! ### Held in reset (R185) -/

/-- Log entry 5: every command that lets time pass, save a full reset, is an event with some effect. -/
theorem exec_eq_event {c : Instr} {dt : Nat} (helapsed : elapsed c = some dt) (hreset : c ≠ .fullReset dt) :
    ∃ effect, ∀ s, exec c s = event dt effect s := by
  cases c with
  | startUp => cases helapsed
  | fullReset => cases helapsed; exact absurd rfl hreset
  | _ => cases helapsed; exact ⟨_, fun _ => by rw [exec]; rfl⟩

/-- Settles O3: the command is an event, and `event_held` says what an event does in reset. -/
theorem heldPartOnlyWaits : Obligations.HeldPartOnlyWaits := by
  unfold Obligations.HeldPartOnlyWaits
  intro c dt s helapsed hreset hheld
  obtain ⟨effect, heffect⟩ := exec_eq_event helapsed hreset
  rw [heffect, event_held hheld]
  rfl

/-! ### The end of a write (R183) -/

/-- R91, R181, R183: a sealed image is valid, since no computed check character is 255. -/
theorem imageValid_sealedImage (b : Bank) : imageValid (sealedImage b) = true := by
  obtain ⟨hA, hB⟩ := checkPair_lt (bankChars b)
  simp only [imageValid, sealedImage, Bool.and_eq_true, decide_eq_true_eq, ne_eq, Prod.ext_iff, BitVec.toNat_ofNat,
    BitVec.toNat_eq, BitVec.reduceToNat]
  omega

section
variable {s : State} (hwriting : s.storeState = .writing) (hdue : isDue s.now s.storeTimer = true)
include hwriting hdue

/-- R183: the write ends DONE. -/
theorem storeExpiry_done {b : Bank} (hsnapshot : s.snapshot = some b) :
    s.storeExpiry true =
      { s with image := sealedImage b, storeState := .done, imageBad := false, snapshot := none, storeTimer := none } := by
  simp [State.storeExpiry, hwriting, hdue, hsnapshot]

/-- R183: the write ends FAILED. -/
theorem storeExpiry_failed :
    s.storeExpiry false = { s with storeState := .failed, snapshot := none, storeTimer := none } := by
  simp [State.storeExpiry, hwriting, hdue]

end

/-- Log entry 3: an expiry that does not happen has no effect. -/
theorem storeExpiry_not_due {s : State} (h : ¬(s.storeState = .writing ∧ isDue s.now s.storeTimer = true))
    (cellsMatch : Bool) : s.storeExpiry cellsMatch = s := if_neg h

/-- R182: while WRITING the snapshot is held and the image is not valid. -/
theorem storeLawful_writing {s : State} (h : s.storeLawful) (hwriting : s.storeState = .writing) :
    (∃ b, s.snapshot = some b) ∧ imageValid s.image = false := by
  rw [State.storeLawful, if_pos hwriting] at h
  obtain ⟨hsnapshot, _, hA, _⟩ := h
  exact ⟨Option.isSome_iff_exists.1 hsnapshot, by simp [imageValid, hA]⟩

/-- Settles O49: the command says which end a due expiry takes, and the law of the store gives the snapshot to seal and
the image that a FAILED write leaves. -/
theorem storeEndsDoneOrFailed : Obligations.StoreEndsDoneOrFailed := by
  unfold Obligations.StoreEndsDoneOrFailed
  intro dt m s hheld hlaw
  have hevent : exec (.storeTimerExpiry dt m) s = .next ((s.elapse dt).storeExpiry m) := event_running hheld dt _
  rw [hevent]
  split
  · next hends =>
    obtain ⟨hwriting, hdue⟩ := hends
    obtain ⟨⟨b, hsnapshot⟩, hinvalid⟩ := storeLawful_writing hlaw hwriting
    cases m with
    | true =>
      exact ⟨b, sealedImage b, hsnapshot, rfl, imageValid_sealedImage b,
        congrArg Host.Outcome.next (storeExpiry_done (s := s.elapse dt) hwriting hdue hsnapshot)⟩
    | false =>
      exact ⟨congrArg Host.Outcome.next (storeExpiry_failed (s := s.elapse dt) hwriting hdue), hinvalid⟩
  · next hidle => exact congrArg Host.Outcome.next (storeExpiry_not_due (s := s.elapse dt) hidle m)

/-! ### The state after reset (R186) -/

/-- R181: an image as delivered is not valid, so start-up makes the factory defaults active (R170). -/
theorem imageValid_deliveredImage : imageValid deliveredImage = false := imageValid_255 factoryBank

/-- Log entries 6 and 8: the state after reset is what a start-up with every strap low makes of it. -/
theorem setUp_reset : State.reset.enterReset.setUp 0 0 = State.reset := by
  have hbank : State.reset.enterReset.startBank = factoryBank := rfl
  have hzones : tmap State.reset.enterReset.zones (fun z _ => resetZone (tget factoryBank.zones z).enabled) =
      tconst 16 (resetZone false) := table_ext fun z => by simp [factoryBank, factoryZoneEntry]
  have houtputs : tmap State.reset.enterReset.outputs (fun o _ => startOutput (tget factoryBank.outputs o)) =
      tconst 4 idleOutput := table_ext fun o => by simp [factoryBank, factoryOutputEntry, startOutput]
  rw [State.setUp, automaticStart_eq rfl, hbank, hzones, houtputs]
  rfl

/-- R170, R181: at reset both banks are the factory defaults, and nothing is stored. -/
theorem banksStand_reset : BanksStand State.reset := by
  obtain ⟨hrange, hvalid⟩ := bankFit_iff.1 bankFit_factoryBank
  exact
    { zero := hrange
      one := hrange
      active := hvalid
      snapshot := fun b hb => absurd hb (Option.not_mem_none b)
      image := fun himage => Bool.noConfusion (imageValid_deliveredImage.symm.trans himage)
      store := ⟨rfl, rfl⟩ }

/-- R103, R114: at reset every slot has its 37 positions, no slot waits, and neither port holds one. -/
theorem telegramsLawful_reset : State.reset.telegramsLawful := by
  refine ⟨fun k => ?_, fun k hk => absurd hk List.not_mem_nil, fun k hk => absurd hk List.not_mem_nil, rfl, rfl⟩
  rw [show State.reset.slots = tconst 16 blankSlot from rfl, tget_tconst]
  rfl

/-- Settles O6: the state after reset is one that start-up leaves, so it satisfies every law that start-up is known to
leave; the banks, which start-up takes from the image, and the telegrams are looked at as they are. -/
theorem resetSatisfiesTheLaws : Obligations.ResetSatisfiesTheLaws := by
  unfold Obligations.ResetSatisfiesTheLaws
  obtain ⟨hbanks, hstore⟩ := banksStand_iff.1 banksStand_reset
  obtain ⟨hbanksHeld, _⟩ := banksStand_iff.1 banksStand_reset.enterReset
  have hpods := setUp_podsLawful State.reset.enterReset 0 0
  have hzonesStand := setUp_zonesStand State.reset.enterReset 0 0
  have houtputsStand := setUp_outputsStand State.reset.enterReset 0 0
  have hsweepStands := (roundsAsked_of_banksLawful hbanksHeld).setUp 0 0
  have hslots := setUp_slotsConserved State.reset.enterReset 0 0
  have hbooks := setUp_booksLawful State.reset.enterReset 0 0
  rw [setUp_reset] at hpods hzonesStand houtputsStand hsweepStands hslots hbooks
  obtain ⟨hzones, halert⟩ := (zonesStand_iff rfl).1 hzonesStand
  exact ⟨hpods, hzones, halert, (outputsStand_iff rfl).1 houtputsStand, sweepLaw_iff.2 hsweepStands.record, hbanks,
    hstore, hslots, telegramsLawful_reset, hbooks.counters, hbooks.time, hbooks.txn, congrArg Host.Outcome.next setUp_reset⟩

end Sys2Proof.Machine
end

section
/-! PROOFS. The step and its front command (log entry 17); and what every command leaves: the queue, the straps, and the
time base but for the command's own time (log entries 2 and 22). -/

namespace Sys2Proof.Machine

/-! ### The step -/

/-- Settles O1: both cases of the queue. -/
theorem stepTakesFrontCommand : Obligations.StepTakesFrontCommand := by
  unfold Obligations.StepTakesFrontCommand
  refine ⟨fun c s => rfl, fun s hempty => ?_⟩
  rw [step, hempty]

/-! ### What surrounds an event -/

/-- What an event finds and its effect does not touch: the time base, the levels of the strap pins and the queue of
commands. -/
def State.surroundings (s : State) : Nat × BitVec 2 × BitVec 6 × List Instr :=
  (s.now, s.trate, s.addrStrap, s.pending)

theorem surroundings_eq_iff {s t : State} :
    t.surroundings = s.surroundings ↔
      t.now = s.now ∧ t.trate = s.trate ∧ t.addrStrap = s.addrStrap ∧ t.pending = s.pending := by
  simp only [State.surroundings, Prod.mk.injEq]

/-! ### The operations on records, slots and ports -/

section

variable (s : State)

@[simp] theorem count_surroundings (c : Counter) : (s.count c).surroundings = s.surroundings := rfl
@[simp] theorem setPod_surroundings (i : PodIx) (r : PodRecord) : (s.setPod i r).surroundings = s.surroundings := rfl
@[simp] theorem countMiss_surroundings (i : PodIx) : (s.countMiss i).surroundings = s.surroundings := rfl
@[simp] theorem fillSlot_surroundings (k : SlotNo) (t : List Byte) :
    (s.fillSlot k t).surroundings = s.surroundings := rfl
@[simp] theorem joinDown_surroundings (k : SlotNo) : (s.joinDown k).surroundings = s.surroundings := rfl
@[simp] theorem joinUp_surroundings (k : SlotNo) : (s.joinUp k).surroundings = s.surroundings := rfl
@[simp] theorem setTrunk_surroundings (p : TrunkPort) : (s.setTrunk p).surroundings = s.surroundings := rfl
@[simp] theorem touchTrunk_surroundings : s.touchTrunk.surroundings = s.surroundings := rfl
@[simp] theorem touchField_surroundings : s.touchField.surroundings = s.surroundings := rfl
@[simp] theorem abandonTrunk_surroundings : s.abandonTrunk.surroundings = s.surroundings := rfl
@[simp] theorem enterGuard_surroundings (t : Txn) (o : TxnOutcome) :
    (s.enterGuard t o).surroundings = s.surroundings := rfl
@[simp] theorem unsolicited_surroundings : s.unsolicited.surroundings = s.surroundings := rfl

@[simp] theorem setShadow_surroundings (b : Bank) : (s.setShadow b).surroundings = s.surroundings := by
  simp [State.surroundings]
@[simp] theorem putAndHandOver_surroundings (z : ZoneIx) (r : ZoneRecord) :
    (s.putAndHandOver z r).surroundings = s.surroundings := by simp [State.surroundings]
@[simp] theorem evaluatePodZone_surroundings (i : PodIx) :
    (s.evaluatePodZone i).surroundings = s.surroundings := by simp [State.surroundings]
@[simp] theorem takeReply_surroundings (i : PodIx) (p : List Byte) :
    (s.takeReply i p).surroundings = s.surroundings := by simp [State.surroundings]
@[simp] theorem forwardSample_surroundings (k : SlotNo) (i : PodIx) (reply : List Byte) :
    (s.forwardSample k i reply).surroundings = s.surroundings := by simp [State.surroundings]
@[simp] theorem sendHeld_surroundings (k : SlotNo) (i : PodIx) (stored : List Byte) :
    (s.sendHeld k i stored).surroundings = s.surroundings := by simp [State.surroundings]

/-! ### Samples, zones, outputs, sweep and store -/

theorem staleExpiry_surroundings (i : PodIx) : (s.staleExpiry i).surroundings = s.surroundings := by
  unfold State.staleExpiry
  split <;> simp

theorem zoneExpiry_surroundings (z : ZoneIx) : (s.zoneExpiry z).surroundings = s.surroundings := by
  unfold State.zoneExpiry
  split
  · split <;> simp
  · rfl

theorem onTimeExpiry_surroundings (o : OutIx) : (s.onTimeExpiry o).surroundings = s.surroundings := by
  unfold State.onTimeExpiry
  split <;> rfl

theorem periodExpiry_surroundings (o : OutIx) : (s.periodExpiry o).surroundings = s.surroundings := by
  unfold State.periodExpiry
  split <;> rfl

theorem delayExpiry_surroundings : s.delayExpiry.surroundings = s.surroundings := by
  unfold State.delayExpiry
  split <;> rfl

theorem paceExpiry_surroundings : s.paceExpiry.surroundings = s.surroundings := by
  unfold State.paceExpiry
  split <;> rfl

/-- R183: a write that ends DONE, one that ends FAILED, and one that does not end. -/
theorem storeExpiry_surroundings (cellsMatch : Bool) : (s.storeExpiry cellsMatch).surroundings = s.surroundings := by
  unfold State.storeExpiry
  split
  · split <;> rfl
  · rfl

/-! ### The field port -/

theorem startSweepTxn_surroundings : s.startSweepTxn.surroundings = s.surroundings := by
  unfold State.startSweepTxn
  split
  · split <;> rfl
  · rfl

/-- R117: DOWN-QUEUE goes before the sweep. -/
theorem startTxn_surroundings : s.startTxn.surroundings = s.surroundings := by
  unfold State.startTxn
  split
  · split
    · rfl
    · exact startSweepTxn_surroundings s
  · rfl

/-- R120, R134: a send that awaits a reply, one that expects none, and one that was abandoned. -/
theorem sendingEnd_surroundings : s.sendingEnd.surroundings = s.surroundings := by
  unfold State.sendingEnd
  split
  · split
    · split
      · split <;> rfl
      · rfl
    · rfl
  · rfl

/-- R127, R128: a miss is counted, at its pod too where it has one, and may leave a held reply. -/
@[simp] theorem missTxn_surroundings (t : Txn) (k : SlotNo) : (s.missTxn t k).surroundings = s.surroundings := by
  simp only [State.missTxn, enterGuard_surroundings]
  cases podOf t.target.toNat <;> cases s.heldFor t <;> simp

@[simp] theorem badReply_surroundings (t : Txn) (k : SlotNo) : (s.badReply t k).surroundings = s.surroundings :=
  missTxn_surroundings _ t k

/-- R123, TABLE 7-3: the four ways a good reply is disposed of. -/
@[simp] theorem goodReply_surroundings (t : Txn) (k : SlotNo) : (s.goodReply t k).surroundings = s.surroundings := by
  simp only [State.goodReply, enterGuard_surroundings]
  split <;> simp

@[simp] theorem storeReplyChar_surroundings (t : Txn) (k : SlotNo) (c : Byte) :
    (s.storeReplyChar t k c).surroundings = s.surroundings := by
  simp only [State.storeReplyChar]
  split
  · rfl
  · simp
  · split <;> simp

/-- TABLE 7-4: a mark character in each of the five port states. -/
theorem fieldMark_surroundings (c : Byte) (stop : Bool) : (s.fieldMark c stop).surroundings = s.surroundings := by
  unfold State.fieldMark
  split
  · split <;> rfl
  · rfl
  · split <;> rfl
  · split <;> simp
  · split <;> rfl

/-- TABLE 7-4: a mark-0 character in each of the five port states. -/
theorem fieldData_surroundings (c : Byte) (stop : Bool) : (s.fieldData c stop).surroundings = s.surroundings := by
  unfold State.fieldData
  split
  · rfl
  · rfl
  · rfl
  · split <;> simp
  · rfl

theorem fieldGap_surroundings : s.fieldGap.surroundings = s.surroundings := by
  unfold State.fieldGap
  split
  · split <;> simp
  · rfl

theorem windowExpiry_surroundings : s.windowExpiry.surroundings = s.surroundings := by
  unfold State.windowExpiry
  split
  · split <;> simp
  · rfl

theorem guardExpiry_surroundings : s.guardExpiry.surroundings = s.surroundings := by
  unfold State.guardExpiry
  split
  · split <;> rfl
  · rfl

/-! ### Management requests -/

/-- R168: a swap. -/
theorem flip_surroundings : s.flip.surroundings = s.surroundings := by
  obtain ⟨_, _, _, _, _, _, hflip⟩ := flip_eq s
  rw [hflip]
  rfl

/-- R179: a FIELD-RESTART. -/
theorem restartField_surroundings : s.restartField.surroundings = s.surroundings := by
  obtain ⟨_, _, _, _, _, hrestart⟩ := restartField_eq s
  rw [hrestart]
  rfl

/-- R171: taking a request, whatever it leaves. -/
theorem Requested.surroundings {s t : State} (hrequest : Requested s t) : t.surroundings = s.surroundings := by
  cases hrequest with
  | unchanged | statusRead | sweepStopped | inhibited | released | storeBegun | countersCleared => rfl
  | podWritten | zoneWritten | outputWritten | listWritten | fieldWritten | copied => exact setShadow_surroundings s _
  | swapped => exact flip_surroundings s
  | sweepStarted hstart =>
    obtain ⟨w, rfl⟩ := sweepStart_eq_setSweep hstart
    rfl
  | sweepResumed hresume =>
    obtain ⟨w, rfl⟩ := sweepResume_eq_setSweep hresume
    rfl
  | fieldRestarted => exact restartField_surroundings s

/-! ### The trunk port -/

@[simp] theorem offerTrunk_surroundings (c : Byte) : (s.offerTrunk c).surroundings = s.surroundings := by
  unfold State.offerTrunk
  split
  · rfl
  · split <;> rfl

/-- R139, R140: a mark character in each of the three port states. -/
@[simp] theorem trunkMark_surroundings (c : Byte) (stop : Bool) :
    (s.trunkMark c stop).surroundings = s.surroundings := by
  unfold State.trunkMark
  split
  · split <;> simp
  · split <;> simp
  · rfl

/-- R107: beyond what its request leaves, an answer changes its slot, the port and UP-QUEUE. -/
@[simp] theorem answerRequest_surroundings (k : SlotNo) (kind : Byte) (p : List Byte) :
    (s.answerRequest k kind p).surroundings = s.surroundings :=
  (takeRequest_requested s kind p).surroundings

/-- R141: a complete telegram is answered, queued or dropped. -/
@[simp] theorem completeTrunk_surroundings (k : SlotNo) : (s.completeTrunk k).surroundings = s.surroundings := by
  simp only [State.completeTrunk]
  split
  · split <;> simp
  · rfl

@[simp] theorem storeTrunkChar_surroundings (k : SlotNo) (c : Byte) :
    (s.storeTrunkChar k c).surroundings = s.surroundings := by
  simp only [State.storeTrunkChar]
  split
  · rfl
  · rfl
  · simp

/-- R88: a mark-0 character in each of the three port states. -/
theorem trunkData_surroundings (c : Byte) (stop : Bool) : (s.trunkData c stop).surroundings = s.surroundings := by
  unfold State.trunkData
  split
  · rfl
  · split <;> simp
  · rfl

theorem trunkGap_surroundings : s.trunkGap.surroundings = s.surroundings := by
  unfold State.trunkGap
  split
  · split <;> rfl
  · rfl

theorem startTransmission_surroundings : s.startTransmission.surroundings = s.surroundings := by
  unfold State.startTransmission
  split
  · split <;> rfl
  · rfl

theorem endTransmission_surroundings : s.endTransmission.surroundings = s.surroundings := by
  unfold State.endTransmission
  split
  · split <;> rfl
  · rfl

/-- R105, R107: a request is a mark character, and where it is granted a slot the rest of its telegram. -/
theorem requestArrives_surroundings (kind : Byte) (p : List Byte) :
    (s.requestArrives kind p).surroundings = s.surroundings := by
  simp only [State.requestArrives]
  split
  · split <;> simp
  · simp

end

/-! ### Every command -/

/-- R185, log entry 2: an event lets its time pass and no other, whether or not the part is held in reset, and leaves
the queue and the straps, where its effect keeps what surrounds it. -/
theorem event_answers {f : State → State} (hf : ∀ s, (f s).surroundings = s.surroundings) (dt : Nat) (s : State) :
    ∃ t, event dt f s = .next t ∧ t.pending = s.pending ∧ t.now = s.now + dt ∧ t.trate = s.trate ∧
      t.addrStrap = s.addrStrap := by
  have hkept : (if s.held then s.elapse dt else f (s.elapse dt)).surroundings = (s.elapse dt).surroundings := by
    split
    · rfl
    · exact hf _
  obtain ⟨hnow, htrate, haddr, hpending⟩ := surroundings_eq_iff.1 hkept
  exact ⟨_, event_next dt f s, hpending, hnow, htrate, haddr⟩

/-- Settles O2: a start-up leaves the state of O5, a full reset names what it changes, and every other command is an
event whose effect keeps what surrounds it. -/
theorem everyCommandAnswersNext : Obligations.EveryCommandAnswersNext := by
  unfold Obligations.EveryCommandAnswersNext
  intro c s
  cases c with
  | startUp trate addr => exact ⟨_, startUpSetsThePartUp trate addr s, rfl, rfl, rfl⟩
  | fullReset dt => exact ⟨(s.elapse dt).enterReset, rfl, rfl, rfl, rfl, rfl⟩
  | trunkMarkCharacter dt c stop => exact event_answers (trunkMark_surroundings · c stop) dt s
  | trunkDataCharacter dt c stop => exact event_answers (trunkData_surroundings · c stop) dt s
  | gapTimerExpiry dt line =>
    cases line with
    | trunk => exact event_answers trunkGap_surroundings dt s
    | field => exact event_answers fieldGap_surroundings dt s
  | trunkTransmissionStart dt => exact event_answers startTransmission_surroundings dt s
  | trunkTransmissionEnd dt => exact event_answers endTransmission_surroundings dt s
  | fieldTransactionStart dt => exact event_answers startTxn_surroundings dt s
  | fieldSendingEnd dt => exact event_answers sendingEnd_surroundings dt s
  | fieldMarkCharacter dt c stop => exact event_answers (fieldMark_surroundings · c stop) dt s
  | fieldDataCharacter dt c stop => exact event_answers (fieldData_surroundings · c stop) dt s
  | replyWindowExpiry dt => exact event_answers windowExpiry_surroundings dt s
  | guardTimerExpiry dt => exact event_answers guardExpiry_surroundings dt s
  | staleDeadlineExpiry dt i => exact event_answers (staleExpiry_surroundings · i) dt s
  | zoneTimerExpiry dt z => exact event_answers (zoneExpiry_surroundings · z) dt s
  | onTimeTimerExpiry dt o => exact event_answers (onTimeExpiry_surroundings · o) dt s
  | periodTimerExpiry dt o => exact event_answers (periodExpiry_surroundings · o) dt s
  | delayTimerExpiry dt => exact event_answers delayExpiry_surroundings dt s
  | paceTimerExpiry dt => exact event_answers paceExpiry_surroundings dt s
  | storeTimerExpiry dt cellsMatch => exact event_answers (storeExpiry_surroundings · cellsMatch) dt s
  | identify | readStatus | readZone | readPod | readEntry | writePodEntry | writeZoneEntry | writeOutputEntry
  | writeSweepList | writeFieldSettings | copyActive | swap | sweepControlStart | sweepControlStop
  | sweepControlResume | outputControlInhibit | outputControlRelease | store | readCounters | fieldRestart | badKind =>
    exact event_answers (requestArrives_surroundings · _ _) _ s

end Sys2Proof.Machine
end

section
/-! PROOFS. Telegrams as they grow, and the law of the slots (R91, R93, R103, R107): what each update of a slot, a queue
or a port leaves of it. -/

namespace Sys2Proof.Machine

/-! ### Telegrams, whole and in progress (R88, R89, R91) -/

/-- R91: every telegram that the part builds is whole and good. -/
theorem isTelegram_telegram (addr kind : Byte) {p : List Byte} (h : p.length ≤ 32) :
    isTelegram (telegram addr kind p) = true := by
  rw [isTelegram, decide_eq_true_iff, telegram_length, telegram_lengthOf addr kind (by omega)]
  exact ⟨telegram_complete addr kind h, rfl, telegram_isGood addr kind (by omega)⟩

theorem assembly_eq_unfinished_iff (t : List Byte) :
    assembly t = .unfinished ↔ t.length < 3 ∨ (lengthOf t ≤ 32 ∧ t.length < 5 + lengthOf t) := by
  rw [assembly_eq]
  split_ifs <;> simp_all

theorem assembly_eq_complete_iff (t : List Byte) :
    assembly t = .complete ↔ 3 ≤ t.length ∧ lengthOf t ≤ 32 ∧ 5 + lengthOf t ≤ t.length := by
  rw [assembly_eq]
  split_ifs <;> simp <;> omega

/-- R88: one character more leaves the characters stored before it. -/
theorem charAt_snoc {t : List Byte} (c : Byte) {i : Nat} (h : i < t.length) : charAt (t ++ [c]) i = charAt t i := by
  rw [charAt, charAt, List.getD_append _ _ _ _ h]

/-- R89, R103: a telegram in progress leaves room in its slot for one character more. -/
theorem snoc_length_le {t : List Byte} (h : assembly t = .unfinished) (c : Byte) : (t ++ [c]).length ≤ 37 := by
  rw [assembly_eq_unfinished_iff] at h
  rw [List.length_append, List.length_singleton]
  omega

/-- R91: a telegram is complete at its last character, and not after it. -/
theorem snoc_length_of_complete {t : List Byte} {c : Byte} (hpart : assembly t = .unfinished)
    (hwhole : assembly (t ++ [c]) = .complete) : (t ++ [c]).length = 5 + lengthOf (t ++ [c]) := by
  rw [assembly_eq_unfinished_iff] at hpart
  rw [assembly_eq_complete_iff] at hwhole
  have hlength : (t ++ [c]).length = t.length + 1 := by simp
  have hlengthOf : 2 < t.length → lengthOf (t ++ [c]) = lengthOf t := fun h => by
    rw [lengthOf, lengthOf, charAt_snoc c h]
  omega

/-- R139: a mark character opens a telegram in progress. -/
theorem assembly_singleton (c : Byte) : assembly [c] = .unfinished := rfl

/-! ### The law, place by place -/

/-- R103: a slot keeps its 37 positions under a telegram that fits. -/
theorem slotLaw_write {u : Slot} (h : slotLaw u = true) {t : List Byte} (ht : t.length ≤ 37) :
    slotLaw (u.write t) = true := by
  rw [slotLaw, decide_eq_true_iff] at h ⊢
  rw [Slot.write_positions u (ht.trans_eq h.symm), h]

theorem trunkSlotLaw_receiving {s : State} {k : SlotNo} {gap : Nat} (hport : s.trunkPort = .receiving k gap) :
    s.trunkSlotLaw = true ↔
      isPartTelegram (s.slot k) ∧ isUp (charAt (s.slot k) 0) = false ∧ addressOf (charAt (s.slot k) 0) ≠ 127 := by
  rw [State.trunkSlotLaw, hport]
  exact decide_eq_true_iff

theorem trunkSlotLaw_transmitting {s : State} {k : SlotNo} {ends : Nat} (hport : s.trunkPort = .transmitting k ends) :
    s.trunkSlotLaw = true ↔ isUpward (s.slot k) := by
  rw [State.trunkSlotLaw, hport]
  exact decide_eq_true_iff

theorem fieldSlotLaw_receiving {s : State} {t : Txn} {k : SlotNo} {gap : Nat}
    (hport : s.fieldPort = .busy t (.receiving gap k)) :
    s.fieldSlotLaw = true ↔ isPartTelegram (s.slot k) ∧ charAt (s.slot k) 0 = upChar t.target := by
  rw [State.fieldSlotLaw, hport]
  exact decide_eq_true_iff

/-- The field port's clause reads the port and the slots, and the trunk port's the same of its own. -/
theorem fieldSlotLaw_congr {s t : State} (hslots : t.slots = s.slots) (hport : t.fieldPort = s.fieldPort) :
    t.fieldSlotLaw = s.fieldSlotLaw := by
  change ({ s with slots := t.slots, fieldPort := t.fieldPort } : State).fieldSlotLaw = _
  rw [hslots, hport]

theorem trunkSlotLaw_congr {s t : State} (hslots : t.slots = s.slots) (hport : t.trunkPort = s.trunkPort) :
    t.trunkSlotLaw = s.trunkSlotLaw := by
  change ({ s with slots := t.slots, trunkPort := t.trunkPort } : State).trunkSlotLaw = _
  rw [hslots, hport]

/-- A state agrees with an earlier one on all that the law of the slots reads but for the field port, which stands by
its slot if it did. -/
structure KeepsTelegrams (s t : State) : Prop where
  slots : t.slots = s.slots
  downQ : t.downQ = s.downQ
  upQ : t.upQ = s.upQ
  trunkPort : t.trunkPort = s.trunkPort
  addrStrap : t.addrStrap = s.addrStrap
  field : s.fieldSlotLaw = true → t.fieldSlotLaw = true

namespace KeepsTelegrams

variable {s t u : State}

/-- What leaves the field port too. -/
theorem of_eq (hslots : t.slots = s.slots) (hdown : t.downQ = s.downQ) (hup : t.upQ = s.upQ)
    (htrunk : t.trunkPort = s.trunkPort) (haddr : t.addrStrap = s.addrStrap) (hfield : t.fieldPort = s.fieldPort) :
    KeepsTelegrams s t :=
  ⟨hslots, hdown, hup, htrunk, haddr, (fieldSlotLaw_congr hslots hfield).trans⟩

theorem refl (s : State) : KeepsTelegrams s s := of_eq rfl rfl rfl rfl rfl rfl

theorem trans (h : KeepsTelegrams s t) (h' : KeepsTelegrams t u) : KeepsTelegrams s u :=
  ⟨h'.slots.trans h.slots, h'.downQ.trans h.downQ, h'.upQ.trans h.upQ, h'.trunkPort.trans h.trunkPort,
    h'.addrStrap.trans h.addrStrap, h'.field ∘ h.field⟩

theorem telegramsLawful (h : KeepsTelegrams s t) (hs : s.telegramsLawful) : t.telegramsLawful := by
  obtain ⟨hpositions, hdown, hup, htrunk, hfield⟩ := hs
  refine ⟨?_, ?_, ?_, (trunkSlotLaw_congr h.slots h.trunkPort).trans htrunk, h.field hfield⟩
  · rw [h.slots]; exact hpositions
  · simpa only [State.slot, State.isDownward, State.ownAddr, h.slots, h.downQ, h.addrStrap] using hdown
  · simpa only [State.slot, h.slots, h.upQ] using hup

/-- The trunk port is read by its own clause alone. -/
theorem setTrunk (h : KeepsTelegrams s t) (p : TrunkPort) : KeepsTelegrams (s.setTrunk p) (t.setTrunk p) :=
  ⟨h.slots, h.downQ, h.upQ, rfl, h.addrStrap, h.field⟩

/-- The field port is read by its own clause alone. -/
theorem setField (h : KeepsTelegrams s t) (p : FieldPort) : KeepsTelegrams (s.setField p) (t.setField p) :=
  ⟨h.slots, h.downQ, h.upQ, h.trunkPort, h.addrStrap,
    (fieldSlotLaw_congr (s := s.setField p) (t := t.setField p) h.slots rfl).trans⟩

end KeepsTelegrams

section

variable {s : State} (h : s.telegramsLawful)
include h

/-- R107: the port of the trunk takes up a telegram, or lets one go. -/
theorem setTrunk_telegramsLawful {p : TrunkPort} (hp : (s.setTrunk p).trunkSlotLaw = true) :
    (s.setTrunk p).telegramsLawful := by
  obtain ⟨hpositions, hdown, hup, _, hfield⟩ := h
  exact ⟨hpositions, hdown, hup, hp, hfield⟩

/-- R88: the trunk port receives a downward telegram. -/
theorem setTrunk_receiving_telegramsLawful {k : SlotNo} (gap : Nat) (hpart : isPartTelegram (s.slot k))
    (hdown : isUp (charAt (s.slot k) 0) = false) (haddr : addressOf (charAt (s.slot k) 0) ≠ 127) :
    (s.setTrunk (.receiving k gap)).telegramsLawful :=
  setTrunk_telegramsLawful h ((trunkSlotLaw_receiving rfl).2 ⟨hpart, hdown, haddr⟩)

/-- R109: and so does the port of the field line. -/
theorem setField_telegramsLawful {p : FieldPort} (hp : (s.setField p).fieldSlotLaw = true) :
    (s.setField p).telegramsLawful := by
  obtain ⟨hpositions, hdown, hup, htrunk, _⟩ := h
  exact ⟨hpositions, hdown, hup, htrunk, hp⟩

/-- R121: the field port receives a reply of the pod that it asked. -/
theorem setField_receiving_telegramsLawful {t : Txn} {k : SlotNo} (gap : Nat) (hpart : isPartTelegram (s.slot k))
    (haddr : charAt (s.slot k) 0 = upChar t.target) : (s.setField (.busy t (.receiving gap k))).telegramsLawful :=
  setField_telegramsLawful h ((fieldSlotLaw_receiving rfl).2 ⟨hpart, haddr⟩)

/-- R107: a downward telegram joins DOWN-QUEUE. -/
theorem joinDown_telegramsLawful {k : SlotNo} (hk : s.isDownward (s.slot k)) : (s.joinDown k).telegramsLawful := by
  obtain ⟨hpositions, hdown, hup, htrunk, hfield⟩ := h
  refine ⟨hpositions, fun j hj => ?_, hup, htrunk, hfield⟩
  rcases List.mem_append.1 hj with hj | hj
  · exact hdown j hj
  · exact List.mem_singleton.1 hj ▸ hk

/-- R107, R110: an upward telegram joins UP-QUEUE. -/
theorem joinUp_telegramsLawful {k : SlotNo} (hk : isUpward (s.slot k)) : (s.joinUp k).telegramsLawful := by
  obtain ⟨hpositions, hdown, hup, htrunk, hfield⟩ := h
  refine ⟨hpositions, hdown, fun j hj => ?_, htrunk, hfield⟩
  rcases List.mem_append.1 hj with hj | hj
  · exact hup j hj
  · exact List.mem_singleton.1 hj ▸ hk

/-- R103: what is written in a FREE slot bears on no telegram. -/
theorem fillSlot_telegramsLawful {k : SlotNo} (hfree : k ∉ s.occupied) {t : List Byte} (ht : t.length ≤ 37) :
    (s.fillSlot k t).telegramsLawful := by
  obtain ⟨hpositions, hdown, hup, htrunk, hfield⟩ := h
  have hslot : ∀ j, j ∈ s.occupied → (s.fillSlot k t).slot j = s.slot j := fun j hj =>
    fillSlot_slot_ne s t fun hkj => hfree (hkj ▸ hj)
  refine ⟨?_, fun j hj => ?_, fun j hj => ?_, ?_, ?_⟩
  · exact tset_forall (P := fun _ u => slotLaw u = true) (slotLaw_write (hpositions k) ht) hpositions
  · rw [hslot j (by simp only [State.occupied, List.mem_append]; tauto)]
    exact hdown j hj
  · rw [hslot j (by simp only [State.occupied, List.mem_append]; tauto)]
    exact hup j hj
  · cases hport : s.trunkPort with
    | listening => rw [State.trunkSlotLaw, fillSlot_trunkPort, hport]
    | receiving j gap =>
      rw [trunkSlotLaw_receiving (s := s.fillSlot k t) hport,
        hslot j (by simp [State.occupied, hport, TrunkPort.rxSlot])]
      exact (trunkSlotLaw_receiving hport).1 htrunk
    | transmitting j ends =>
      rw [trunkSlotLaw_transmitting (s := s.fillSlot k t) hport,
        hslot j (by simp [State.occupied, hport, TrunkPort.txSlot])]
      exact (trunkSlotLaw_transmitting hport).1 htrunk
  · cases hport : s.fieldPort with
    | idle => rw [State.fieldSlotLaw, fillSlot_fieldPort, hport]
    | busy x phase =>
      cases phase with
      | sending => simpa only [State.fieldSlotLaw, fillSlot_fieldPort, hport] using hfield
      | awaiting | guarding => rw [State.fieldSlotLaw, fillSlot_fieldPort, hport]
      | receiving gap j =>
        rw [fieldSlotLaw_receiving (s := s.fillSlot k t) hport,
          hslot j (by simp [State.occupied, hport, FieldPort.txnSlot])]
        exact (fieldSlotLaw_receiving hport).1 hfield

end

/-! ### Slots that their port lets go (R104) -/

/-- R106, R107: a slot that has left TRUNK-RX is FREE. -/
theorem rxSlot_left {s : State} (hs : s.slotsConserved) {k : SlotNo} {gap : Nat}
    (hport : s.trunkPort = .receiving k gap) : k ∉ (s.setTrunk .listening).occupied := by
  have hleft := count_rx_left hport (.refl s) k
  have hone := List.nodup_iff_count_le_one.1 hs k
  rw [List.count_singleton_self] at hleft
  exact List.count_eq_zero.1 (by omega)

/-- R110: a slot that has left FIELD-TXN is FREE. -/
theorem txnSlot_left {s : State} (hs : s.slotsConserved) {k : SlotNo} (hslot : s.fieldPort.txnSlot = some k) :
    k ∉ (s.setField .idle).occupied := by
  have hone := List.nodup_iff_count_le_one.1 hs k
  have hidle : FieldPort.txnSlot .idle = none := rfl
  refine List.count_eq_zero.1 ?_
  simp only [count_occupied, setField_trunkPort, setField_downQ, setField_upQ, setField_fieldPort, hslot, hidle,
    Option.toList_none, Option.toList_some, List.count_nil, List.count_singleton_self] at hone ⊢
  omega

/-! ### Samples, zones, outputs, sweep, store and requests -/

theorem putAndHandOver_keepsTelegrams (s : State) (z : ZoneIx) (r : ZoneRecord) :
    KeepsTelegrams s (s.putAndHandOver z r) := .of_eq (by simp) (by simp) (by simp) (by simp) (by simp) (by simp)

theorem evaluatePodZone_keepsTelegrams (s : State) (i : PodIx) : KeepsTelegrams s (s.evaluatePodZone i) :=
  .of_eq (by simp) (by simp) (by simp) (by simp) (by simp) (by simp)

theorem takeReply_keepsTelegrams (s : State) (i : PodIx) (p : List Byte) : KeepsTelegrams s (s.takeReply i p) :=
  .of_eq (by simp) (by simp) (by simp) (by simp) (by simp) (by simp)

theorem setShadow_keepsTelegrams (s : State) (b : Bank) : KeepsTelegrams s (s.setShadow b) :=
  .of_eq (by simp) (by simp) (by simp) (by simp) (by simp) (by simp)

theorem staleExpiry_keepsTelegrams (s : State) (i : PodIx) : KeepsTelegrams s (s.staleExpiry i) := by
  unfold State.staleExpiry
  split
  · exact .trans (t := s.setPod i _) (.of_eq rfl rfl rfl rfl rfl rfl) (evaluatePodZone_keepsTelegrams _ i)
  · exact .refl s

theorem zoneExpiry_keepsTelegrams (s : State) (z : ZoneIx) : KeepsTelegrams s (s.zoneExpiry z) := by
  unfold State.zoneExpiry
  split
  · split
    · exact putAndHandOver_keepsTelegrams s z _
    · exact .refl s
  · exact .refl s

theorem onTimeExpiry_keepsTelegrams (s : State) (o : OutIx) : KeepsTelegrams s (s.onTimeExpiry o) := by
  unfold State.onTimeExpiry
  split <;> exact .of_eq rfl rfl rfl rfl rfl rfl

theorem periodExpiry_keepsTelegrams (s : State) (o : OutIx) : KeepsTelegrams s (s.periodExpiry o) := by
  unfold State.periodExpiry
  split <;> exact .of_eq rfl rfl rfl rfl rfl rfl

theorem delayExpiry_keepsTelegrams (s : State) : KeepsTelegrams s s.delayExpiry := by
  unfold State.delayExpiry
  split <;> exact .of_eq rfl rfl rfl rfl rfl rfl

theorem paceExpiry_keepsTelegrams (s : State) : KeepsTelegrams s s.paceExpiry := by
  unfold State.paceExpiry
  split <;> exact .of_eq rfl rfl rfl rfl rfl rfl

theorem storeExpiry_keepsTelegrams (s : State) (cellsMatch : Bool) : KeepsTelegrams s (s.storeExpiry cellsMatch) := by
  unfold State.storeExpiry
  split
  · split <;> exact .of_eq rfl rfl rfl rfl rfl rfl
  · exact .refl s

/-- R120, R134: an abandoned send goes on with its copy, and an abandoned reply leaves the port no slot. -/
theorem setField_abandoned_keepsTelegrams (s : State) (now : Nat) :
    KeepsTelegrams s (s.setField (abandonedPort now s.fieldPort)) := by
  refine ⟨rfl, rfl, rfl, rfl, rfl, fun h => ?_⟩
  rw [State.fieldSlotLaw, setField_fieldPort]
  cases hport : s.fieldPort with
  | idle => rfl
  | busy x phase =>
    cases phase with
    | sending =>
      rw [State.fieldSlotLaw, hport] at h
      exact h
    | awaiting | receiving | guarding => rfl

theorem restartField_keepsTelegrams (s : State) : KeepsTelegrams s s.restartField := by
  obtain ⟨_, _, _, _, _, hrestart⟩ := restartField_eq s
  rw [hrestart]
  exact (setField_abandoned_keepsTelegrams s s.now).trans (.of_eq rfl rfl rfl rfl rfl rfl)

/-- R171: of the requests FIELD-RESTART alone bears on a port, and none on a slot. -/
theorem Requested.keepsTelegrams {s t : State} (hrequest : Requested s t) : KeepsTelegrams s t := by
  cases hrequest with
  | unchanged | statusRead | sweepStopped | inhibited | released | storeBegun | countersCleared =>
    exact .of_eq rfl rfl rfl rfl rfl rfl
  | podWritten | zoneWritten | outputWritten | listWritten | fieldWritten | copied =>
    exact setShadow_keepsTelegrams s _
  | swapped =>
    obtain ⟨_, _, _, _, _, _, hflip⟩ := flip_eq s
    rw [hflip]
    exact .of_eq rfl rfl rfl rfl rfl rfl
  | sweepStarted hstart =>
    obtain ⟨w, rfl⟩ := sweepStart_eq_setSweep hstart
    exact .of_eq rfl rfl rfl rfl rfl rfl
  | sweepResumed hresume =>
    obtain ⟨w, rfl⟩ := sweepResume_eq_setSweep hresume
    exact .of_eq rfl rfl rfl rfl rfl rfl
  | fieldRestarted => exact restartField_keepsTelegrams s

end Sys2Proof.Machine
end

section
/-! PROOFS. A response fits in a telegram (R91, R101): no answer to a request has more than 32 characters. -/

namespace Sys2Proof.Machine

theorem podBody_length (e : PodEntry) : (podBody e).length = 18 := rfl

theorem zoneBody_length (e : ZoneEntry) : (zoneBody e).length = 13 := rfl

theorem outputBody_length (e : OutputEntry) : (outputBody e).length = 10 := rfl

theorem fieldBody_length (f : FieldSettings) (g : SweepProgram) : (fieldBody f g).length = 9 := rfl

theorem counterBody_length (s : State) : s.counterBody.length = 30 := by rw [counterBody_eq]; rfl

theorem outputReport_length (s : State) (o : OutIx) : (s.outputReport o).2.length = 9 := rfl

theorem report_length (s : State) (body : List Byte) : (s.report body).2.length = body.length + 1 := rfl

theorem askIdentify_length (s : State) : s.askIdentify.2.length = 8 := rfl

theorem askStatus_length (s : State) : s.askStatus.2.length = 20 := rfl

/-- TABLE 5-11: the longest entry is a page of the sweep list. -/
theorem entryReport_length {b : Bank} {table index : Nat} {body : List Byte}
    (h : entryReport b table index = some body) : body.length ≤ 29 := by
  unfold entryReport at h
  split at h
  · obtain ⟨i, _, rfl⟩ := Option.map_eq_some_iff.1 h
    exact (podBody_length _).trans_le (by decide)
  · obtain ⟨z, _, rfl⟩ := Option.map_eq_some_iff.1 h
    exact (zoneBody_length _).trans_le (by decide)
  · obtain ⟨o, _, rfl⟩ := Option.map_eq_some_iff.1 h
    exact (outputBody_length _).trans_le (by decide)
  · split at h
    · cases h
    · cases h
      exact le_rfl
  · cases h
    exact (fieldBody_length _ _).trans_le (by decide)
  · cases h

theorem askZone_length (s : State) (p : List Byte) : (s.askZone p).2.length ≤ 32 := by
  unfold State.askZone
  split
  · simp [State.report, State.zoneReport]
  · exact Nat.one_le_ofNat

theorem askPod_length (s : State) (p : List Byte) : (s.askPod p).2.length ≤ 32 := by
  unfold State.askPod
  split
  · simp [State.report, State.podReport]
  · exact Nat.one_le_ofNat

theorem askEntry_length (s : State) (p : List Byte) : (s.askEntry p).2.length ≤ 32 := by
  unfold State.askEntry
  split
  · split
    · next hbody =>
      rw [report_length]
      exact (Nat.succ_le_succ (entryReport_length hbody)).trans (by decide)
    · exact Nat.one_le_ofNat
  · exact Nat.one_le_ofNat

/-- R161 to R163: a write is answered by a status alone. -/
theorem writePod_length (s : State) (p : List Byte) : (s.writePod p).2.length = 1 := by
  unfold State.writePod
  split <;> rfl

theorem writeZone_length (s : State) (p : List Byte) : (s.writeZone p).2.length = 1 := by
  unfold State.writeZone
  split <;> rfl

theorem writeOutput_length (s : State) (p : List Byte) : (s.writeOutput p).2.length = 1 := by
  unfold State.writeOutput
  split <;> rfl

theorem writeList_length (s : State) (p : List Byte) : (s.writeList p).2.length = 1 := by
  simp only [State.writeList]
  split <;> rfl

theorem writeField_length (s : State) (p : List Byte) : (s.writeField p).2.length = 1 := by
  unfold State.writeField
  split <;> rfl

theorem swapBanks_length (s : State) : s.swapBanks.2.length ≤ 32 := by
  unfold State.swapBanks
  split
  · exact (by decide : 3 ≤ 32)
  · exact (by decide : 2 ≤ 32)

theorem controlSweep_length (s : State) (p : List Byte) : (s.controlSweep p).2.length ≤ 32 := by
  unfold State.controlSweep
  split
  · cases s.sweepStart <;> simp [State.sweepReport, State.report, State.answer]
  · simp [State.sweepReport, State.report]
  · cases s.sweepResume <;> simp [State.sweepReport, State.report, State.answer]
  · exact Nat.one_le_ofNat

theorem controlOutput_length (s : State) (p : List Byte) : (s.controlOutput p).2.length ≤ 32 := by
  unfold State.controlOutput
  split
  · unfold State.inhibit
    split
    · exact Nat.one_le_ofNat
    · exact (outputReport_length _ _).trans_le (by decide)
  · exact (outputReport_length _ _).trans_le (by decide)
  · exact Nat.one_le_ofNat

theorem storeRequest_length (s : State) : s.storeRequest.2.length = 1 := by
  unfold State.storeRequest
  split <;> rfl

theorem askCounters_length (s : State) (p : List Byte) : (s.askCounters p).2.length ≤ 32 := by
  unfold State.askCounters
  split
  · rw [report_length, counterBody_length]
    decide
  · rw [report_length, counterBody_length]
    decide
  · exact Nat.one_le_ofNat

theorem carryOut_length (s : State) (kind : Byte) (p : List Byte) : (s.carryOut kind p).2.length ≤ 32 := by
  unfold State.carryOut
  split
  · exact (askIdentify_length s).trans_le (by decide)
  · exact (askStatus_length s).trans_le (by decide)
  · exact askZone_length s p
  · exact askPod_length s p
  · exact askEntry_length s p
  · exact (writePod_length s p).trans_le Nat.one_le_ofNat
  · exact (writeZone_length s p).trans_le Nat.one_le_ofNat
  · exact (writeOutput_length s p).trans_le Nat.one_le_ofNat
  · exact (writeList_length s p).trans_le Nat.one_le_ofNat
  · exact (writeField_length s p).trans_le Nat.one_le_ofNat
  · exact Nat.one_le_ofNat
  · exact swapBanks_length s
  · exact controlSweep_length s p
  · exact controlOutput_length s p
  · exact (storeRequest_length s).trans_le Nat.one_le_ofNat
  · exact askCounters_length s p
  · exact Nat.one_le_ofNat
  · exact Nat.one_le_ofNat

/-- R91, R101: a refused request is answered by a status, and any other by what its kind gives. -/
theorem takeRequest_length (s : State) (kind : Byte) (p : List Byte) : (s.takeRequest kind p).2.length ≤ 32 := by
  unfold State.takeRequest
  split
  · exact Nat.one_le_ofNat
  · split
    · exact Nat.one_le_ofNat
    · exact carryOut_length s kind p

/-- R99, R128: a held reply carries a stored sample, its age, and an annotation block where one is asked for. -/
theorem heldBody_length {s : State} (hpods : s.podsLawful) {t : Txn} {i : PodIx} {stored : List Byte}
    (h : s.heldFor t = some (i, stored)) : (s.heldBody i stored).length ≤ 32 := by
  obtain ⟨hknown, hstored⟩ : (tget s.pods i).freshness ≠ .never ∧ (tget s.pods i).payload = some stored := by
    rw [State.heldFor] at h
    split at h
    · split at h
      · next hheld =>
        obtain ⟨_, _, hknown⟩ := hheld
        obtain ⟨_, hpayload, heq⟩ := Option.map_eq_some_iff.1 h
        cases heq
        exact ⟨hknown, hpayload⟩
      · cases h
    · cases h
  have hlaw := (podLaw_iff.1 (hpods i)).known hknown
  rw [knownLaw, decide_eq_true_iff] at hlaw
  obtain ⟨_, _, hlength, _⟩ := hlaw
  rw [hstored] at hlength
  have hle := sampleLength_le hlength.symm
  have hann : (s.annotation i).length = 6 := by simp [State.annotation]
  rw [State.heldBody, List.length_append]
  split <;> simp [heldPayload, hann] <;> omega

end Sys2Proof.Machine
end

section
/-! PROOFS. Every effect keeps the queued telegrams whole and bound the right way, and so does every step (R91, R93,
R95, R103, R107). -/

namespace Sys2Proof.Machine

theorem count_keepsTelegrams (s : State) (c : Counter) : KeepsTelegrams s (s.count c) := .of_eq rfl rfl rfl rfl rfl rfl

theorem touchTrunk_keepsTelegrams (s : State) : KeepsTelegrams s s.touchTrunk := .of_eq rfl rfl rfl rfl rfl rfl

theorem touchField_keepsTelegrams (s : State) : KeepsTelegrams s s.touchField := .of_eq rfl rfl rfl rfl rfl rfl

/-! ### Reset and start-up (R114, R186) -/

/-- R114: with no slot in a queue or a port, the law asks for the positions alone. -/
theorem telegramsLawful_of_no_slots {s : State} (hpositions : ∀ k, slotLaw (tget s.slots k) = true)
    (hdown : s.downQ = []) (hup : s.upQ = []) (htrunk : s.trunkPort = .listening) (hfield : s.fieldPort = .idle) :
    s.telegramsLawful := by
  refine ⟨hpositions, ?_, ?_, ?_, ?_⟩
  · simp [hdown]
  · simp [hup]
  · rw [State.trunkSlotLaw, htrunk]
  · rw [State.fieldSlotLaw, hfield]

theorem enterReset_telegramsLawful {s : State} (h : s.telegramsLawful) : s.enterReset.telegramsLawful := by
  obtain ⟨hpositions, _⟩ := h
  exact telegramsLawful_of_no_slots hpositions rfl rfl rfl rfl

theorem setUp_telegramsLawful {s : State} (h : s.telegramsLawful) (trate : BitVec 2) (addr : BitVec 6) :
    (s.setUp trate addr).telegramsLawful := by
  obtain ⟨hpositions, _⟩ := h
  rw [State.setUp, automaticStart_eq rfl]
  exact telegramsLawful_of_no_slots hpositions rfl rfl rfl rfl

/-! ### The trunk port (R106, R107, R111) -/

theorem setTrunk_listening_telegramsLawful {s : State} (h : s.telegramsLawful) :
    (s.setTrunk .listening).telegramsLawful := setTrunk_telegramsLawful h rfl

theorem abandonTrunk_telegramsLawful {s : State} (h : s.telegramsLawful) : s.abandonTrunk.telegramsLawful :=
  setTrunk_listening_telegramsLawful ((count_keepsTelegrams s _).telegramsLawful h)

/-- R106: what is written in the slot in TRUNK-RX bears on no telegram but the one being received. -/
theorem rx_fillSlot_telegramsLawful {s : State} (h : s.telegramsLawful) (hs : s.slotsConserved) {k : SlotNo} {gap : Nat}
    (hport : s.trunkPort = .receiving k gap) {u : List Byte} (hu : u.length ≤ 37) :
    ((s.fillSlot k u).setTrunk .listening).telegramsLawful :=
  fillSlot_telegramsLawful (setTrunk_listening_telegramsLawful h) (rxSlot_left hs hport) hu

/-- R101, R107: the response is written over the request and joins UP-QUEUE. -/
theorem answerRequest_telegramsLawful {s : State} (h : (s.setTrunk .listening).telegramsLawful) (hs : s.slotsConserved)
    {k : SlotNo} {gap : Nat} (hport : s.trunkPort = .receiving k gap) (kind : Byte) (p : List Byte) :
    (s.answerRequest k kind p).telegramsLawful := by
  have htaken := takeRequest_requested s kind p
  have hfits := takeRequest_length s kind p
  have hlawful := (htaken.keepsTelegrams.setTrunk .listening).telegramsLawful h
  have hfree := rxSlot_left (htaken.keepsQueues.slotsConserved hs) (htaken.keepsTelegrams.trunkPort.trans hport)
  have hlength : (telegram (upChar s.ownAddr) kind (s.takeRequest kind p).2).length ≤ 37 := by
    rw [telegram_length]
    omega
  refine joinUp_telegramsLawful (fillSlot_telegramsLawful hlawful hfree hlength) ?_
  rw [fillSlot_slot]
  exact ⟨isTelegram_telegram _ kind hfits, isUp_upChar _⟩

/-- R107, R141: a whole telegram that came downward, and not to address 127, is answered, queued or dropped. -/
theorem completeTrunk_telegramsLawful {s : State} (h : (s.setTrunk .listening).telegramsLawful) (hs : s.slotsConserved)
    {k : SlotNo} {gap : Nat} (hport : s.trunkPort = .receiving k gap) (hcomplete : assembly (s.slot k) = .complete)
    (hlength : (s.slot k).length = 5 + lengthOf (s.slot k)) (hdown : isUp (charAt (s.slot k) 0) = false)
    (haddr : addressOf (charAt (s.slot k) 0) ≠ 127) : (s.completeTrunk k).telegramsLawful := by
  have hcounted : ∀ c, ((s.count c).setTrunk .listening).telegramsLawful := fun c =>
    ((count_keepsTelegrams s c).setTrunk .listening).telegramsLawful h
  simp only [State.completeTrunk]
  split
  · next hgood =>
    split
    · exact answerRequest_telegramsLawful (hcounted _) ((count_keepsQueues s _).slotsConserved hs) hport _ _
    · next hother =>
      exact joinDown_telegramsLawful (hcounted _)
        ⟨by rw [isTelegram, decide_eq_true_iff]; exact ⟨hcomplete, hlength, hgood⟩, hdown, haddr, hother⟩
  · exact hcounted _

/-- R88, R107: one character more in TRUNK-RX. -/
theorem storeTrunkChar_telegramsLawful {s : State} (h : s.telegramsLawful) (hs : s.slotsConserved) {k : SlotNo}
    {gap : Nat} (hport : s.trunkPort = .receiving k gap) (c : Byte) : (s.storeTrunkChar k c).telegramsLawful := by
  obtain ⟨_, _, _, htrunk, _⟩ := id h
  obtain ⟨⟨hsome, hpart⟩, hdown, haddr⟩ := (trunkSlotLaw_receiving hport).1 htrunk
  rw [← charAt_snoc c (List.length_pos_iff.2 hsome)] at hdown haddr
  have hfilled := rx_fillSlot_telegramsLawful h hs hport (snoc_length_le hpart c)
  simp only [State.storeTrunkChar]
  split
  · next hunfinished =>
    have hstored : ((s.fillSlot k (s.slot k ++ [c])).setTrunk .listening).slot k = s.slot k ++ [c] :=
      fillSlot_slot s k _
    refine setTrunk_receiving_telegramsLawful hfilled (s.now + 3 * s.trunkChar) ?_ ?_ ?_ <;> rw [hstored]
    exacts [⟨List.concat_ne_nil _ _, hunfinished⟩, hdown, haddr]
  · exact ((count_keepsTelegrams _ _).setTrunk .listening).telegramsLawful hfilled
  · next hcomplete =>
    exact completeTrunk_telegramsLawful hfilled ((fillSlot_keepsQueues s k _).slotsConserved hs) hport
      (by rwa [fillSlot_slot]) (by rw [fillSlot_slot]; exact snoc_length_of_complete hpart hcomplete)
      (by rwa [fillSlot_slot]) (by rwa [fillSlot_slot])

/-- R106: a telegram that opens is granted a FREE slot, and is bound for the field line or the own address. -/
theorem offerTrunk_telegramsLawful {s : State} (h : s.telegramsLawful) (c : Byte) :
    (s.offerTrunk c).telegramsLawful := by
  unfold State.offerTrunk
  split
  · exact (count_keepsTelegrams s _).telegramsLawful h
  · next hbound =>
    obtain ⟨hdown, haddr⟩ := not_or.1 hbound
    split
    · exact (count_keepsTelegrams s _).telegramsLawful h
    · next k hgrant =>
      have hfilled := fillSlot_telegramsLawful h (grant_free hgrant) (t := [c]) (by simp)
      refine setTrunk_receiving_telegramsLawful hfilled _ ?_ ?_ ?_ <;> rw [fillSlot_slot]
      exacts [⟨List.cons_ne_nil _ _, assembly_singleton c⟩, Bool.eq_false_iff.2 hdown, haddr]

theorem trunkMark_telegramsLawful {s : State} (h : s.telegramsLawful) (c : Byte) (stop : Bool) :
    (s.trunkMark c stop).telegramsLawful := by
  have htouched := (touchTrunk_keepsTelegrams s).telegramsLawful h
  have habandoned := abandonTrunk_telegramsLawful htouched
  unfold State.trunkMark
  split
  · split
    · exact offerTrunk_telegramsLawful htouched c
    · exact htouched
  · split
    · exact offerTrunk_telegramsLawful habandoned c
    · exact habandoned
  · exact h

theorem trunkData_telegramsLawful {s : State} (h : s.telegramsLawful) (hs : s.slotsConserved) (c : Byte) (stop : Bool) :
    (s.trunkData c stop).telegramsLawful := by
  have htouched := (touchTrunk_keepsTelegrams s).telegramsLawful h
  unfold State.trunkData
  split
  · exact htouched
  · next hport =>
    split
    · exact storeTrunkChar_telegramsLawful htouched ((touchTrunk_keepsQueues s).slotsConserved hs) hport c
    · exact abandonTrunk_telegramsLawful htouched
  · exact h

theorem trunkGap_telegramsLawful {s : State} (h : s.telegramsLawful) : s.trunkGap.telegramsLawful := by
  unfold State.trunkGap
  split
  · split
    · exact abandonTrunk_telegramsLawful h
    · exact h
  · exact h

/-- R111: the head of UP-QUEUE is what the trunk port sends. -/
theorem startTransmission_telegramsLawful {s : State} (h : s.telegramsLawful) :
    s.startTransmission.telegramsLawful := by
  obtain ⟨hpositions, hdown, hup, _, hfield⟩ := id h
  unfold State.startTransmission
  split
  · next k rest _ hqueue =>
    rw [hqueue, List.forall_mem_cons] at hup
    obtain ⟨hhead, hrest⟩ := hup
    split
    · exact ⟨hpositions, hdown, hrest, (trunkSlotLaw_transmitting rfl).2 hhead, hfield⟩
    · exact h
  · exact h

theorem endTransmission_telegramsLawful {s : State} (h : s.telegramsLawful) : s.endTransmission.telegramsLawful := by
  unfold State.endTransmission
  split
  · split
    · exact setTrunk_listening_telegramsLawful ((touchTrunk_keepsTelegrams s).telegramsLawful h)
    · exact h
  · exact h

/-- R101: a request is a mark character and, where that is granted a slot, the rest of its telegram. -/
theorem requestArrives_telegramsLawful {s : State} (h : s.telegramsLawful) (hs : s.slotsConserved) (kind : Byte)
    (p : List Byte) : (s.requestArrives kind p).telegramsLawful := by
  have hmark := trunkMark_telegramsLawful h (downChar s.ownAddr) true
  have hmarked := trunkMark_slotsConserved hs (downChar s.ownAddr) true
  simp only [State.requestArrives]
  split
  · next k gap hport =>
    split
    · have hfilled := rx_fillSlot_telegramsLawful hmark hmarked hport
        (u := (telegram (downChar s.ownAddr) kind p).take 3) ((List.length_take_le _ _).trans (by decide))
      exact ((count_keepsTelegrams _ _).setTrunk .listening).telegramsLawful hfilled
    · next hfits =>
      have hle : p.length ≤ 32 := Nat.not_lt.1 hfits
      have hfilled := rx_fillSlot_telegramsLawful hmark hmarked hport (u := telegram (downChar s.ownAddr) kind p)
        (by rw [telegram_length]; omega)
      refine completeTrunk_telegramsLawful hfilled ((fillSlot_keepsQueues _ k _).slotsConserved hmarked) hport
        ?_ ?_ ?_ ?_ <;> rw [fillSlot_slot]
      · exact telegram_complete _ kind hle
      · rw [telegram_length, telegram_lengthOf _ kind (by omega)]
      · exact isUp_downChar _
      · rw [telegram_addr, addressOf_downChar]
        exact ownAddr_ne_127 s
  · exact hmark

/-! ### The field port (R109, R110) -/

/-- R129: in GUARD the field port stands by no slot. -/
theorem enterGuard_keepsTelegrams (s : State) (t : Txn) (o : TxnOutcome) :
    KeepsTelegrams (s.setField .idle) (s.enterGuard t o) := ⟨rfl, rfl, rfl, rfl, rfl, fun _ => rfl⟩

/-- R109: what is written in the slot in FIELD-TXN bears on no telegram but the one being received. -/
theorem txn_fillSlot_telegramsLawful {s : State} (h : s.telegramsLawful) (hs : s.slotsConserved) {k : SlotNo}
    (hslot : s.fieldPort.txnSlot = some k) {u : List Byte} (hu : u.length ≤ 37) :
    ((s.fillSlot k u).setField .idle).telegramsLawful :=
  fillSlot_telegramsLawful (setField_telegramsLawful h (p := .idle) rfl) (txnSlot_left hs hslot) hu

section

/-! The end of a transaction with a slot in FIELD-TXN, in a state whose law holds but for the port's own clause. -/

variable {s u : State} (h : (s.setField .idle).telegramsLawful) (hkeeps : KeepsTelegrams s u)
include h hkeeps

/-- R110: a transaction that sends nothing upward. -/
theorem enterGuard_telegramsLawful (t : Txn) (o : TxnOutcome) : (u.enterGuard t o).telegramsLawful :=
  ((hkeeps.setField .idle).trans (enterGuard_keepsTelegrams u t o)).telegramsLawful h

/-- R110: an upward telegram goes from FIELD-TXN to UP-QUEUE. -/
theorem joinUp_enterGuard_telegramsLawful {k : SlotNo} (hup : isUpward (s.slot k)) (t : Txn) (o : TxnOutcome) :
    ((u.joinUp k).enterGuard t o).telegramsLawful := by
  have hsame : u.slot k = s.slot k := by rw [State.slot, State.slot, hkeeps.slots]
  exact joinUp_telegramsLawful (s := u.enterGuard t o) (enterGuard_telegramsLawful h hkeeps t o) (hsame.symm ▸ hup)

/-- R99, R125: an upward telegram is built in the slot before it joins UP-QUEUE. -/
theorem fillSlot_joinUp_enterGuard_telegramsLawful (hs : s.slotsConserved) (hqueues : KeepsQueues s u) {k : SlotNo}
    (hslot : s.fieldPort.txnSlot = some k) {v : List Byte} (hlength : v.length ≤ 37) (hup : isUpward v) (t : Txn)
    (o : TxnOutcome) : (((u.fillSlot k v).joinUp k).enterGuard t o).telegramsLawful := by
  have hfree : k ∉ (u.enterGuard t o).occupied := by
    have hleft := count_txn_left hslot hqueues t o k
    have hone := List.nodup_iff_count_le_one.1 hs k
    rw [List.count_singleton_self] at hleft
    exact List.count_eq_zero.1 (by omega)
  have hfilled := fillSlot_telegramsLawful (enterGuard_telegramsLawful h hkeeps t o) hfree hlength
  exact joinUp_telegramsLawful hfilled (by rwa [fillSlot_slot])

end

/-- R127, R128: at a miss the slot carries a held reply upward, or none. -/
theorem missTxn_telegramsLawful {s : State} (h : (s.setField .idle).telegramsLawful) (hs : s.slotsConserved)
    (hpods : s.podsLawful) {k : SlotNo} (hslot : s.fieldPort.txnSlot = some k) (t : Txn) :
    (s.missTxn t k).telegramsLawful := by
  rw [State.missTxn]
  cases hheld : s.heldFor t with
  | none =>
    refine enterGuard_telegramsLawful h ?_ t .miss
    cases podOf t.target.toNat <;> exact .of_eq rfl rfl rfl rfl rfl rfl
  | some held =>
    obtain ⟨i, stored⟩ := held
    have hfits : (((s.count .fieldMisses).countMiss i).heldBody i stored).length ≤ 32 := by
      rw [heldBody_countMiss]
      exact heldBody_length hpods hheld
    simp only [podOf_of_heldFor hheld, sendHeld_eq]
    refine fillSlot_joinUp_enterGuard_telegramsLawful h ?_ hs ?_ hslot ?_
      ⟨isTelegram_telegram _ _ hfits, isUp_upChar _⟩ t .miss
    · split <;> exact .of_eq rfl rfl rfl rfl rfl rfl
    · split <;> exact .of_eq rfl rfl rfl rfl
    · rw [telegram_length]
      omega

theorem badReply_telegramsLawful {s : State} (h : (s.setField .idle).telegramsLawful) (hs : s.slotsConserved)
    (hpods : s.podsLawful) {k : SlotNo} (hslot : s.fieldPort.txnSlot = some k) (t : Txn) :
    (s.badReply t k).telegramsLawful :=
  missTxn_telegramsLawful (s := s.count .fieldBad) (((count_keepsTelegrams s _).setField .idle).telegramsLawful h)
    ((count_keepsQueues s _).slotsConserved hs) hpods hslot t

section

/-! A good reply, whole and upward in the slot in FIELD-TXN. -/

variable {s : State} (h : (s.setField .idle).telegramsLawful) (hs : s.slotsConserved) {k : SlotNo}
  (hslot : s.fieldPort.txnSlot = some k) (hup : isUpward (s.slot k))
include h hs hslot hup

/-- R124, R125: the reply goes on as it came, or with an annotation block that fits. -/
theorem forwardSample_telegramsLawful (i : PodIx) (t : Txn) :
    (((s.forwardSample k i (s.slot k)).joinUp k).enterGuard t .reply).telegramsLawful := by
  have htaken := takeReply_keepsTelegrams s i (payloadOf (s.slot k))
  unfold State.forwardSample
  split
  · split
    · exact joinUp_enterGuard_telegramsLawful h
        ((count_keepsTelegrams s .annotSkipped).trans (takeReply_keepsTelegrams _ _ _)) hup t .reply
    · next hshort =>
      split
      · exact joinUp_enterGuard_telegramsLawful h htaken hup t .reply
      · have hann : ∀ u : State, (u.annotation i).length = 6 := fun u => by simp [State.annotation]
        have hpayload : (payloadOf (s.slot k)).length ≤ lengthOf (s.slot k) := List.length_take_le _ _
        have hfits : (payloadOf (s.slot k) ++ (s.takeReply i (payloadOf (s.slot k))).annotation i).length ≤ 32 := by
          rw [List.length_append, hann]
          omega
        have hqueues := (takeReply_keepsQueues s i (payloadOf (s.slot k))).trans (count_keepsQueues _ .annotated)
        obtain ⟨_, hdirection⟩ := hup
        refine fillSlot_joinUp_enterGuard_telegramsLawful h (htaken.trans (count_keepsTelegrams _ _)) hs hqueues hslot
          ?_ ⟨isTelegram_telegram _ _ hfits, hdirection⟩ t .reply
        rw [telegram_length]
        omega
  · exact joinUp_enterGuard_telegramsLawful h htaken hup t .reply

/-- R123, TABLE 7-3: a reply to the head-end joins UP-QUEUE, and one to the sweep leaves its slot FREE. -/
theorem goodReply_telegramsLawful (t : Txn) : (s.goodReply t k).telegramsLawful := by
  have hcounted := count_keepsTelegrams s .fieldReplies
  rw [State.goodReply]
  split
  · exact forwardSample_telegramsLawful (s := s.count .fieldReplies) ((hcounted.setField .idle).telegramsLawful h)
      ((count_keepsQueues s _).slotsConserved hs) hslot hup _ t
  · exact joinUp_enterGuard_telegramsLawful h hcounted hup t .reply
  · exact enterGuard_telegramsLawful h (hcounted.trans (takeReply_keepsTelegrams _ _ _)) t .reply
  · exact enterGuard_telegramsLawful h hcounted t .reply

end

/-! ### The states of the field port (TABLE 7-1) -/

/-- The three laws that are kept together: a slot's telegram is its own by the second, and a held reply fits by the
third. -/
structure TelegramsStand (s : State) : Prop where
  telegrams : s.telegramsLawful
  others : s.slotsConserved ∧ s.podsLawful

namespace TelegramsStand

variable {s : State} (h : TelegramsStand s)
include h

theorem slots : s.slotsConserved := h.others.1

theorem pods : s.podsLawful := h.others.2

theorem touchField : TelegramsStand s.touchField :=
  ⟨(touchField_keepsTelegrams s).telegramsLawful h.telegrams, (touchField_keepsQueues s).slotsConserved h.slots,
    h.pods⟩

/-- R122, R127: a reply that ends badly, whatever of it has been stored. -/
theorem badReply {k : SlotNo} (hslot : s.fieldPort.txnSlot = some k) (t : Txn) : (s.badReply t k).telegramsLawful :=
  badReply_telegramsLawful (setField_telegramsLawful h.telegrams rfl) h.slots h.pods hslot t

/-- R91, R122: one character more in FIELD-TXN. -/
theorem storeReplyChar {t : Txn} {k : SlotNo} {gap : Nat} (hport : s.fieldPort = .busy t (.receiving gap k))
    (c : Byte) : (s.storeReplyChar t k c).telegramsLawful := by
  obtain ⟨_, _, _, _, hfield⟩ := h.telegrams
  obtain ⟨⟨hsome, hpart⟩, haddr⟩ := (fieldSlotLaw_receiving hport).1 hfield
  have hslot : s.fieldPort.txnSlot = some k := congrArg FieldPort.txnSlot hport
  rw [← charAt_snoc c (List.length_pos_iff.2 hsome)] at haddr
  have hfilled := txn_fillSlot_telegramsLawful h.telegrams h.slots hslot (snoc_length_le hpart c)
  have hconserved := (fillSlot_keepsQueues s k (s.slot k ++ [c])).slotsConserved h.slots
  have hbad := badReply_telegramsLawful hfilled hconserved h.pods hslot t
  simp only [State.storeReplyChar]
  split
  · next hunfinished =>
    have hstored : ((s.fillSlot k (s.slot k ++ [c])).setField .idle).slot k = s.slot k ++ [c] := fillSlot_slot s k _
    refine setField_receiving_telegramsLawful hfilled (s.now + 3 * Txn.charTime t) ?_ ?_ <;> rw [hstored]
    exacts [⟨List.concat_ne_nil _ _, hunfinished⟩, haddr]
  · exact hbad
  · next hcomplete =>
    split
    · next hgood =>
      refine goodReply_telegramsLawful hfilled hconserved hslot ?_ t
      rw [fillSlot_slot]
      refine ⟨?_, haddr ▸ isUp_upChar _⟩
      rw [isTelegram, decide_eq_true_iff]
      exact ⟨hcomplete, snoc_length_of_complete hpart hcomplete, hgood⟩
    · exact hbad

/-- TABLE 7-4: a mark character opens a reply, ends one, or bears on no telegram. -/
theorem fieldMark (c : Byte) (stop : Bool) : (s.fieldMark c stop).telegramsLawful := by
  have htouched := h.touchField
  unfold State.fieldMark
  split
  · split
    · exact (count_keepsTelegrams _ _).telegramsLawful htouched.telegrams
    · exact htouched.telegrams
  · exact h.telegrams
  · next t _ k hport =>
    split
    · next hopens =>
      have hslot : s.touchField.fieldPort.txnSlot = some k := congrArg FieldPort.txnSlot hport
      have hfilled := txn_fillSlot_telegramsLawful htouched.telegrams htouched.slots hslot (u := [c]) (by simp)
      have hstored : ((s.touchField.fillSlot k [c]).setField .idle).slot k = [c] := fillSlot_slot s.touchField k _
      refine setField_receiving_telegramsLawful hfilled (s.now + 3 * Txn.charTime t) ?_ ?_ <;> rw [hstored]
      exacts [⟨List.cons_ne_nil _ _, assembly_singleton c⟩, hopens.2]
    · exact htouched.telegrams
  · next hport =>
    have hbad := fun t => htouched.badReply (congrArg FieldPort.txnSlot hport) t
    split
    · exact (count_keepsTelegrams _ _).telegramsLawful (hbad _)
    · exact hbad _
  · have hguard := fun t => setField_telegramsLawful htouched.telegrams
      (p := .busy t (.guarding (s.touchField.now + guardTime t))) rfl
    split
    · exact (count_keepsTelegrams _ _).telegramsLawful (hguard _)
    · exact hguard _

/-- TABLE 7-4: a mark-0 character goes on with a reply, ends one, or bears on no telegram. -/
theorem fieldData (c : Byte) (stop : Bool) : (s.fieldData c stop).telegramsLawful := by
  have htouched := h.touchField
  unfold State.fieldData
  split
  · exact htouched.telegrams
  · exact h.telegrams
  · exact htouched.telegrams
  · next hport =>
    split
    · exact htouched.storeReplyChar hport c
    · exact htouched.badReply (congrArg FieldPort.txnSlot hport) _
  · exact setField_telegramsLawful htouched.telegrams rfl

theorem fieldGap : s.fieldGap.telegramsLawful := by
  unfold State.fieldGap
  split
  · next hport =>
    split
    · exact h.badReply (congrArg FieldPort.txnSlot hport) _
    · exact h.telegrams
  · exact h.telegrams

theorem windowExpiry : s.windowExpiry.telegramsLawful := by
  unfold State.windowExpiry
  split
  · next hport =>
    split
    · exact missTxn_telegramsLawful (setField_telegramsLawful h.telegrams rfl) h.slots h.pods
        (congrArg FieldPort.txnSlot hport) _
    · exact h.telegrams
  · exact h.telegrams

end TelegramsStand

section

variable {s : State} (h : s.telegramsLawful)
include h

theorem guardExpiry_telegramsLawful : s.guardExpiry.telegramsLawful := by
  unfold State.guardExpiry
  split
  · split
    · exact setField_telegramsLawful h rfl
    · exact h
  · exact h

/-- R120, R134: after sending, the port awaits a reply that has not begun, or stands by no slot. -/
theorem sendingEnd_telegramsLawful : s.sendingEnd.telegramsLawful := by
  have htouched := (touchField_keepsTelegrams s).telegramsLawful h
  unfold State.sendingEnd
  split
  · split
    · split
      · split
        · exact (count_keepsTelegrams _ _).telegramsLawful (setField_telegramsLawful htouched rfl)
        · exact setField_telegramsLawful htouched rfl
      · exact setField_telegramsLawful htouched rfl
    · exact h
  · exact h

/-- R118 to R120: the port sends its own copy of a whole telegram. -/
theorem startSending_telegramsLawful {k : SlotNo} (hk : isTelegram (s.slot k) = true) (origin : Origin) :
    (s.startSending origin k).telegramsLawful := setField_telegramsLawful h hk

/-- R95, R119: a sweep poll is a whole telegram, built in a FREE slot. -/
theorem startSweepTxn_telegramsLawful : s.startSweepTxn.telegramsLawful := by
  unfold State.startSweepTxn
  split
  · next k i _ hgrant _ =>
    split
    · have hfilled := fillSlot_telegramsLawful h (grant_free hgrant) (t := sweepPoll i) (by simp [sweepPoll])
      have hpoll : isTelegram ((s.fillSlot k (sweepPoll i)).slot k) = true := by
        rw [fillSlot_slot]
        exact isTelegram_telegram _ _ (by simp)
      exact KeepsTelegrams.telegramsLawful (.of_eq rfl rfl rfl rfl rfl rfl)
        (startSending_telegramsLawful hfilled hpoll .sweep)
    · exact h
  · exact h

/-- R117, R118: the head of DOWN-QUEUE is what the field port sends. -/
theorem startTxn_telegramsLawful : s.startTxn.telegramsLawful := by
  obtain ⟨hpositions, hdown, hup, htrunk, hfield⟩ := id h
  unfold State.startTxn
  split
  · split
    · next k rest hqueue =>
      rw [hqueue, List.forall_mem_cons] at hdown
      obtain ⟨⟨hhead, _⟩, hrest⟩ := hdown
      exact startSending_telegramsLawful (s := { s with downQ := rest }) ⟨hpositions, hrest, hup, htrunk, hfield⟩ hhead
        .trunk
    · exact startSweepTxn_telegramsLawful h
  · exact h

end

/-! ### Every step -/

/-- Two properties that every effect keeps are kept together. -/
theorem KeptByEffects.and {P Q : State → Prop} (hP : KeptByEffects P) (hQ : KeptByEffects Q) :
    KeptByEffects fun s => P s ∧ Q s where
  queue s q h := ⟨hP.queue s q h.1, hQ.queue s q h.2⟩
  elapse s dt h := ⟨hP.elapse s dt h.1, hQ.elapse s dt h.2⟩
  enterReset s h := ⟨hP.enterReset s h.1, hQ.enterReset s h.2⟩
  setUp s trate addr h := ⟨hP.setUp s trate addr h.1, hQ.setUp s trate addr h.2⟩
  trunkMark s c stop hheld h := ⟨hP.trunkMark s c stop hheld h.1, hQ.trunkMark s c stop hheld h.2⟩
  trunkData s c stop hheld h := ⟨hP.trunkData s c stop hheld h.1, hQ.trunkData s c stop hheld h.2⟩
  trunkGap s hheld h := ⟨hP.trunkGap s hheld h.1, hQ.trunkGap s hheld h.2⟩
  startTransmission s hheld h := ⟨hP.startTransmission s hheld h.1, hQ.startTransmission s hheld h.2⟩
  endTransmission s hheld h := ⟨hP.endTransmission s hheld h.1, hQ.endTransmission s hheld h.2⟩
  startTxn s hheld h := ⟨hP.startTxn s hheld h.1, hQ.startTxn s hheld h.2⟩
  sendingEnd s hheld h := ⟨hP.sendingEnd s hheld h.1, hQ.sendingEnd s hheld h.2⟩
  fieldMark s c stop hheld h := ⟨hP.fieldMark s c stop hheld h.1, hQ.fieldMark s c stop hheld h.2⟩
  fieldData s c stop hheld h := ⟨hP.fieldData s c stop hheld h.1, hQ.fieldData s c stop hheld h.2⟩
  fieldGap s hheld h := ⟨hP.fieldGap s hheld h.1, hQ.fieldGap s hheld h.2⟩
  windowExpiry s hheld h := ⟨hP.windowExpiry s hheld h.1, hQ.windowExpiry s hheld h.2⟩
  guardExpiry s hheld h := ⟨hP.guardExpiry s hheld h.1, hQ.guardExpiry s hheld h.2⟩
  staleExpiry s i hheld h := ⟨hP.staleExpiry s i hheld h.1, hQ.staleExpiry s i hheld h.2⟩
  zoneExpiry s z hheld h := ⟨hP.zoneExpiry s z hheld h.1, hQ.zoneExpiry s z hheld h.2⟩
  onTimeExpiry s o hheld h := ⟨hP.onTimeExpiry s o hheld h.1, hQ.onTimeExpiry s o hheld h.2⟩
  periodExpiry s o hheld h := ⟨hP.periodExpiry s o hheld h.1, hQ.periodExpiry s o hheld h.2⟩
  delayExpiry s hheld h := ⟨hP.delayExpiry s hheld h.1, hQ.delayExpiry s hheld h.2⟩
  paceExpiry s hheld h := ⟨hP.paceExpiry s hheld h.1, hQ.paceExpiry s hheld h.2⟩
  storeExpiry s cellsMatch hheld h := ⟨hP.storeExpiry s cellsMatch hheld h.1, hQ.storeExpiry s cellsMatch hheld h.2⟩
  requestArrives s kind p hheld h := ⟨hP.requestArrives s kind p hheld h.1, hQ.requestArrives s kind p hheld h.2⟩

/-- R104, R20: the laws that the telegrams' law leans on are kept by every effect. -/
theorem slotsAndPods_keptByEffects : KeptByEffects fun s => s.slotsConserved ∧ s.podsLawful :=
  slotsConserved_keptByEffects.and podsLawful_keptByEffects

theorem telegramsStand_keptByEffects : KeptByEffects TelegramsStand where
  queue s q h := ⟨h.telegrams, slotsAndPods_keptByEffects.queue s q h.others⟩
  elapse s dt h := ⟨h.telegrams, slotsAndPods_keptByEffects.elapse s dt h.others⟩
  enterReset s h := ⟨enterReset_telegramsLawful h.telegrams, slotsAndPods_keptByEffects.enterReset s h.others⟩
  setUp s trate addr h :=
    ⟨setUp_telegramsLawful (enterReset_telegramsLawful h.telegrams) trate addr,
      slotsAndPods_keptByEffects.setUp s trate addr h.others⟩
  trunkMark s c stop hheld h :=
    ⟨trunkMark_telegramsLawful h.telegrams c stop,
      slotsAndPods_keptByEffects.trunkMark s c stop hheld h.others⟩
  trunkData s c stop hheld h :=
    ⟨trunkData_telegramsLawful h.telegrams h.slots c stop,
      slotsAndPods_keptByEffects.trunkData s c stop hheld h.others⟩
  trunkGap s hheld h := ⟨trunkGap_telegramsLawful h.telegrams, slotsAndPods_keptByEffects.trunkGap s hheld h.others⟩
  startTransmission s hheld h :=
    ⟨startTransmission_telegramsLawful h.telegrams,
      slotsAndPods_keptByEffects.startTransmission s hheld h.others⟩
  endTransmission s hheld h :=
    ⟨endTransmission_telegramsLawful h.telegrams,
      slotsAndPods_keptByEffects.endTransmission s hheld h.others⟩
  startTxn s hheld h := ⟨startTxn_telegramsLawful h.telegrams, slotsAndPods_keptByEffects.startTxn s hheld h.others⟩
  sendingEnd s hheld h :=
    ⟨sendingEnd_telegramsLawful h.telegrams,
      slotsAndPods_keptByEffects.sendingEnd s hheld h.others⟩
  fieldMark s c stop hheld h := ⟨h.fieldMark c stop, slotsAndPods_keptByEffects.fieldMark s c stop hheld h.others⟩
  fieldData s c stop hheld h := ⟨h.fieldData c stop, slotsAndPods_keptByEffects.fieldData s c stop hheld h.others⟩
  fieldGap s hheld h := ⟨h.fieldGap, slotsAndPods_keptByEffects.fieldGap s hheld h.others⟩
  windowExpiry s hheld h := ⟨h.windowExpiry, slotsAndPods_keptByEffects.windowExpiry s hheld h.others⟩
  guardExpiry s hheld h :=
    ⟨guardExpiry_telegramsLawful h.telegrams,
      slotsAndPods_keptByEffects.guardExpiry s hheld h.others⟩
  staleExpiry s i hheld h :=
    ⟨(staleExpiry_keepsTelegrams s i).telegramsLawful h.telegrams,
      slotsAndPods_keptByEffects.staleExpiry s i hheld h.others⟩
  zoneExpiry s z hheld h :=
    ⟨(zoneExpiry_keepsTelegrams s z).telegramsLawful h.telegrams,
      slotsAndPods_keptByEffects.zoneExpiry s z hheld h.others⟩
  onTimeExpiry s o hheld h :=
    ⟨(onTimeExpiry_keepsTelegrams s o).telegramsLawful h.telegrams,
      slotsAndPods_keptByEffects.onTimeExpiry s o hheld h.others⟩
  periodExpiry s o hheld h :=
    ⟨(periodExpiry_keepsTelegrams s o).telegramsLawful h.telegrams,
      slotsAndPods_keptByEffects.periodExpiry s o hheld h.others⟩
  delayExpiry s hheld h :=
    ⟨(delayExpiry_keepsTelegrams s).telegramsLawful h.telegrams,
      slotsAndPods_keptByEffects.delayExpiry s hheld h.others⟩
  paceExpiry s hheld h :=
    ⟨(paceExpiry_keepsTelegrams s).telegramsLawful h.telegrams,
      slotsAndPods_keptByEffects.paceExpiry s hheld h.others⟩
  storeExpiry s cellsMatch hheld h :=
    ⟨(storeExpiry_keepsTelegrams s cellsMatch).telegramsLawful h.telegrams,
      slotsAndPods_keptByEffects.storeExpiry s cellsMatch hheld h.others⟩
  requestArrives s kind p hheld h :=
    ⟨requestArrives_telegramsLawful h.telegrams h.slots kind p,
      slotsAndPods_keptByEffects.requestArrives s kind p hheld h.others⟩

/-! ### The obligation -/

/-- R91: the check pair's own range refuses a check character of 255. -/
theorem isGood_of_255 {t : List Byte} (h : charAt t (3 + lengthOf t) = 255 ∨ charAt t (4 + lengthOf t) = 255) :
    isGood t = false := by
  obtain ⟨hA, hB⟩ := checkPair_lt (t.take (3 + lengthOf t))
  have h255 : (255 : Byte).toNat = 255 := rfl
  rw [isGood, Bool.and_eq_false_iff, beq_eq_false_iff_ne, beq_eq_false_iff_ne]
  rcases h with h | h <;> rw [h, h255]
  · exact .inl hA.ne
  · exact .inr hB.ne

/-- Settles O59: the check pair and the telegram by their definitions, and the law kept by every effect together with
the laws of the slots and of the pods, so by every step. -/
theorem everyStepKeepsTelegramsWhole : Obligations.EveryStepKeepsTelegramsWhole := by
  unfold Obligations.EveryStepKeepsTelegramsWhole
  refine ⟨rfl, checkPair_snoc, fun _ _ _ => rfl, fun t => ⟨?_, isGood_of_255⟩, fun s t hslots hpods htelegrams ht => ?_⟩
  · rw [isGood, Bool.and_eq_true, beq_iff_eq, beq_iff_eq]
    rfl
  · exact (telegramsStand_keptByEffects.step ⟨htelegrams, hslots, hpods⟩ ht).telegrams

end Sys2Proof.Machine
end

section
/-! PROOFS. The trunk port (R87 to R91, R94, R139 to R143): its characters, its gap timer and its transmissions, in
every state of the port; with the field line's gap timer and reply window (R121, R122, R127). -/

namespace Sys2Proof.Machine

open Sys2Proof.Stated

/-! ### Characters on the trunk (R88, R89, R139 to R141) -/

theorem setTrunk_self {s : State} {p : TrunkPort} (h : s.trunkPort = p) : s.setTrunk p = s := by
  rw [State.setTrunk, ← h]

/-- R90: a character on the trunk has ended. -/
theorem trunkTouched_eq (s : State) (dt : Nat) :
    { s with now := s.now + dt, trunkQuiet := s.now + dt } = (s.elapse dt).touchTrunk := rfl

/-- R103: the same, and a slot holds a telegram as far as it has come. -/
theorem trunkStored_eq (s : State) (dt : Nat) (k : SlotNo) (t : List Byte) :
    { s with now := s.now + dt, trunkQuiet := s.now + dt,
             slots := tset s.slots k (overlaid (tget s.slots k) t) } = (s.elapse dt).touchTrunk.fillSlot k t := rfl

/-- R139: a character has ended, with no telegram in TRUNK-RX. -/
theorem trunkListening_eq (s : State) (dt : Nat) :
    { s with now := s.now + dt, trunkQuiet := s.now + dt, trunkPort := .listening } =
      (s.elapse dt).touchTrunk.setTrunk .listening := rfl

/-- R139: what becomes of a mark character, spelt out. -/
theorem offerTrunk_eq (s : State) (c : Byte) :
    s.offerTrunk c =
      if c.getLsbD 7 = true ∨ c.setWidth 7 = 127#7 then s.count .trunkDiscarded
      else
        match s.grant with
        | none => s.count .trunkNoSlot
        | some k =>
          { s with slots := tset s.slots k (overlaid (tget s.slots k) [c]),
                   trunkPort := .receiving k (s.now + 3 * s.trunkChar) } := rfl

/-- Settles O26, by the port's state. -/
theorem trunkMarkCharacterIsJudged : Obligations.TrunkMarkCharacterIsJudged := by
  unfold Obligations.TrunkMarkCharacterIsJudged
  intro dt c stop s hheld
  change event dt (fun s => s.trunkMark c stop) s = _
  rw [event_running hheld, State.trunkMark, elapse_trunkPort]
  simp only [offerTrunk_eq, elapsed_eq, trunkListening_eq]
  cases hport : s.trunkPort with
  | transmitting => rfl
  | listening =>
    have hlistening : (s.elapse dt).touchTrunk.setTrunk .listening = (s.elapse dt).touchTrunk := setTrunk_self hport
    rw [hlistening]
    cases stop <;> rfl
  | receiving => cases stop <;> rfl

/-- R91, R141: a telegram stored whole in TRUNK-RX, by what the check and its address say. -/
theorem storeTrunkChar_eq (s : State) (k : SlotNo) (c : Byte) :
    let t := s.slot k ++ [c]
    s.storeTrunkChar k c =
      if t.length < 3 ∨ (lengthOf t ≤ 32 ∧ t.length < 5 + lengthOf t) then
        (s.fillSlot k t).setTrunk (.receiving k (s.now + 3 * s.trunkChar))
      else if 32 < lengthOf t then (s.fillSlot k t).abandonTrunk
      else if isGood t = false then ((s.fillSlot k t).count .trunkCheck).setTrunk .listening
      else if addressOf (charAt t 0) ≠ s.ownAddr then
        (((s.fillSlot k t).count .trunkGood).setTrunk .listening).joinDown k
      else ((s.fillSlot k t).count .trunkGood).answerRequest k (kindOf t) (payloadOf t) := by
  intro t
  rw [State.storeTrunkChar, show s.slot k ++ [c] = t from rfl]
  by_cases hpart : t.length < 3 ∨ (lengthOf t ≤ 32 ∧ t.length < 5 + lengthOf t)
  · simp only [assembly_eq, if_pos hpart]
  by_cases hlong : 32 < lengthOf t
  · simp only [assembly_eq, if_neg hpart, if_pos hlong]
  simp only [assembly_eq, if_neg hpart, if_neg hlong, State.completeTrunk, fillSlot_slot]
  cases isGood t with
  | false => rfl
  | true =>
    simp only [if_true, Bool.true_eq_false, if_false, ne_eq, ite_not]
    rfl

/-- R101, R107: what the answer to a request leaves, spelt out. -/
theorem answerRequest_eq (s : State) (k : SlotNo) (kind : Byte) (p : List Byte) :
    s.answerRequest k kind p =
      { (s.takeRequest kind p).1 with
          slots := tset (s.takeRequest kind p).1.slots k (overlaid (tget (s.takeRequest kind p).1.slots k)
            (telegram (upChar s.ownAddr) kind (s.takeRequest kind p).2)),
          trunkPort := .listening,
          upQ := (s.takeRequest kind p).1.upQ ++ [k] } := rfl

/-- Settles O27, by the port's state; the character of a telegram by `storeTrunkChar_eq`. -/
theorem trunkDataCharacterIsStored : Obligations.TrunkDataCharacterIsStored := by
  unfold Obligations.TrunkDataCharacterIsStored
  intro dt c stop s hheld
  change event dt (fun s => s.trunkData c stop) s = _
  rw [event_running hheld, State.trunkData, elapse_trunkPort]
  simp only [elapsed_eq, trunkTouched_eq, trunkStored_eq, trunkListening_eq]
  cases s.trunkPort with
  | transmitting | listening => rfl
  | receiving k gap =>
    cases stop with
    | false => rfl
    | true =>
      simp only [storeTrunkChar_eq, if_true, Bool.true_eq_false, if_false]
      refine congrArg Host.Outcome.next (ite_congr rfl (fun _ => rfl) fun _ => ?_)
      refine ite_congr rfl (fun _ => rfl) fun _ => ite_congr rfl (fun _ => rfl) fun _ => ?_
      exact ite_congr rfl (fun _ => rfl) fun _ => answerRequest_eq _ k _ _

/-! ### The gap timers and the reply window (R90, R121, R122, R127, R140) -/

/-- Settles O28: each timer by its port's state; a miss by `missTxn_eq_missed`. -/
theorem gapAndWindowExpiriesAbandon : Obligations.GapAndWindowExpiriesAbandon := by
  unfold Obligations.GapAndWindowExpiriesAbandon
  intro dt s hheld
  refine ⟨?_, ?_, ?_⟩
  · change event dt State.trunkGap s = _
    rw [event_running hheld, State.trunkGap, elapse_trunkPort]
    simp only [elapsed_eq]
    cases s.trunkPort <;> rfl
  · change event dt State.fieldGap s = _
    rw [event_running hheld, State.fieldGap, elapse_fieldPort]
    simp only [elapsed_eq, badReply_eq_missed]
    cases s.fieldPort with
    | idle => rfl
    | busy t phase => cases phase <;> rfl
  · change event dt State.windowExpiry s = _
    rw [event_running hheld, State.windowExpiry, elapse_fieldPort]
    simp only [elapsed_eq, missTxn_eq_missed]
    cases s.fieldPort with
    | idle => rfl
    | busy t phase => cases phase <;> rfl

/-! ### The bits of a telegram (R87, R94) -/

/-- R94: only the first character of a telegram has its mark bit set. -/
theorem lineBits_rest (t : List Byte) (n : Nat) :
    ((t.zipIdx (n + 1)).flatMap fun c =>
      [false, c.1.getLsbD 0, c.1.getLsbD 1, c.1.getLsbD 2, c.1.getLsbD 3, c.1.getLsbD 4, c.1.getLsbD 5, c.1.getLsbD 6,
        c.1.getLsbD 7, c.2 = 0, true]) = t.flatMap (characterBits false) := by
  induction t generalizing n with
  | nil => rfl
  | cons c t ih =>
    rw [List.zipIdx_cons, List.flatMap_cons, ih (n + 1), List.flatMap_cons]
    rfl

theorem telegramBits_eq_lineBits (t : List Byte) : telegramBits t = lineBits t := by
  cases t with
  | nil => rfl
  | cons c t =>
    rw [lineBits, List.zipIdx_cons, List.flatMap_cons, lineBits_rest]
    rfl

/-! ### Upward transmission (R111, R142, R143) -/

/-- R142: the first moment at which a transmission can start, where the port is LISTENING and UP-QUEUE is not empty. -/
theorem transmissionMoment_eq {s : State} (hport : s.trunkPort = .listening) (hqueue : s.upQ ≠ []) :
    s.transmissionMoment = some (s.trunkQuiet + 2 * s.trunkChar) := by
  rw [State.transmissionMoment, hport]
  cases hup : s.upQ with
  | nil => exact absurd hup hqueue
  | cons => rfl

/-- R87, R138, R143: what the trunk's transmit pins carry, by the port's state. -/
theorem trunkPins_eq (s : State) :
    match s.trunkPort with
    | .transmitting k _ => s.trkDe = true ∧ s.trkTxd = lineBits (s.slot k)
    | _ => s.trkDe = false ∧ s.trkTxd = [] := by
  rw [State.trkDe, State.trkTxd]
  cases s.trunkPort with
  | listening | receiving => exact ⟨rfl, rfl⟩
  | transmitting k ends => exact ⟨rfl, telegramBits_eq_lineBits _⟩

/-- Settles O29: the start by the port and the queue, the end by the port, the first moment by `transmissionMoment_eq`
and the pins by `trunkPins_eq`. -/
theorem upwardTransmissionStartsAndEnds : Obligations.UpwardTransmissionStartsAndEnds := by
  unfold Obligations.UpwardTransmissionStartsAndEnds
  intro dt s hheld
  refine ⟨?_, ?_, fun htimely hport hqueue hwaits => ?_, trunkPins_eq s⟩
  · change event dt State.startTransmission s = _
    rw [event_running hheld, State.startTransmission, elapse_trunkPort, elapse_upQ]
    simp only [elapsed_eq]
    cases s.trunkPort with
    | receiving | transmitting => rfl
    | listening =>
      cases s.upQ with
      | nil => rfl
      | cons k rest =>
        simp only [State.trunkIsQuiet, decide_eq_true_eq]
        rfl
  · change event dt State.endTransmission s = _
    rw [event_running hheld, State.endTransmission, elapse_trunkPort]
    simp only [elapsed_eq, trunkListening_eq]
    cases s.trunkPort <;> rfl
  · obtain ⟨htransmission, _⟩ := htimely hwaits
    exact htransmission _ (transmissionMoment_eq hport hqueue)

end Sys2Proof.Machine
end

section
/-! PROOFS. A request as one command is the characters of its telegram, in every state of the trunk port (log
entry 13). -/

namespace Sys2Proof.Machine

open Sys2Proof.Stated

/-- R91: the payload of a request that can be sent fits in a telegram. -/
theorem payload_length_of_wellFormed {c : Instr} {dt : Nat} {kind : Byte} {p : List Byte}
    (h : requestOf c = some (dt, kind, p)) (hformed : c.wellFormed = true) : p.length ≤ 32 := by
  cases c with
  | identify | readStatus | readZone | readPod | readEntry | writePodEntry | writeZoneEntry | writeOutputEntry
  | writeSweepList | writeFieldSettings | copyActive | swap | store | readCounters | fieldRestart =>
    cases h
    exact of_decide_eq_true hformed
  | sweepControlStart | sweepControlStop | sweepControlResume | outputControlInhibit | outputControlRelease =>
    cases h
    simp
  | badKind =>
    cases h
    exact of_decide_eq_true (Bool.and_eq_true_iff.1 hformed).2
  | _ => cases h

/-- Data characters at one moment leave a state that the first of them leaves. -/
theorem runAll_dataCharacters {s : State} (h : ∀ c, exec (.trunkDataCharacter 0 c true) s = .next s) (cs : List Byte) :
    runAll s (cs.map fun c => .trunkDataCharacter 0 c true) = .next s := by
  induction cs with
  | nil => rfl
  | cons c cs ih =>
    rw [List.map_cons, runAll, h c]
    exact ih

theorem exec_trunkMarkCharacter {s : State} (hheld : s.held = false) (dt : Nat) (c : Byte) (stop : Bool) :
    exec (.trunkMarkCharacter dt c stop) s = .next ((s.elapse dt).trunkMark c stop) :=
  event_running hheld dt fun s => s.trunkMark c stop

/-- R88, R185: where the mark character of a telegram opens none, and the characters after it change nothing, the whole
telegram does what its mark character does. -/
theorem runAll_asCharacters_unopened {s t : State} {dt : Nat} {kind : Byte} {p : List Byte}
    (hmark : exec (.trunkMarkCharacter dt (downChar s.ownAddr) true) s = .next t)
    (hdata : ∀ c, exec (.trunkDataCharacter 0 c true) t = .next t) : runAll s (asCharacters s dt kind p) = .next t := by
  rw [asCharacters, runAll, hmark]
  exact runAll_dataCharacters hdata _

/-- R185: in reset neither way is received. -/
theorem runAll_asCharacters_held {s : State} (hheld : s.held = true) (dt : Nat) (kind : Byte) (p : List Byte) :
    runAll s (asCharacters s dt kind p) = .next (s.elapse dt) :=
  runAll_asCharacters_unopened (event_held hheld dt fun s => s.trunkMark _ true) fun c =>
    event_held (s := s.elapse dt) hheld 0 fun s => s.trunkData c true

/-- R143: over a transmission the characters are not seen. -/
theorem runAll_asCharacters_transmitting {s : State} (hheld : s.held = false) {k : SlotNo} {ends : Nat}
    (hport : s.trunkPort = .transmitting k ends) (dt : Nat) (kind : Byte) (p : List Byte) :
    runAll s (asCharacters s dt kind p) = .next (s.elapse dt) := by
  refine runAll_asCharacters_unopened ?_ fun c => ?_
  · rw [exec_trunkMarkCharacter hheld, State.trunkMark, elapse_trunkPort, hport]
  · rw [exec_trunkDataCharacter (s := s.elapse dt) hheld, State.trunkData, elapse_trunkPort, hport]

/-- R112, R139: with no FREE slot the telegram is lost at its mark character; the rest, ending at that moment too, only
starts the quiet interval where it was. -/
theorem runAll_asCharacters_noSlot {s : State} (hheld : s.held = false) (hport : s.trunkPort = .listening)
    (hgrant : s.grant = none) (dt : Nat) (kind : Byte) (p : List Byte) :
    runAll s (asCharacters s dt kind p) = .next ((s.elapse dt).touchTrunk.count .trunkNoSlot) := by
  refine runAll_asCharacters_unopened ?_ fun c => ?_
  · simp only [exec_trunkMarkCharacter hheld, State.trunkMark, elapse_trunkPort, hport, if_true]
    exact congrArg _ (offerTrunk_own_none (s := (s.elapse dt).touchTrunk) hgrant)
  · rw [exec_trunkDataCharacter (s := (s.elapse dt).touchTrunk.count _) hheld, State.trunkData, count_trunkPort,
      touchTrunk_trunkPort, elapse_trunkPort, hport]
    rfl

/-- R140: characters that interrupt a telegram are taken as though it had been abandoned before them. -/
theorem runAll_asCharacters_receiving {s : State} (hheld : s.held = false) {k : SlotNo} {gap : Nat}
    (hport : s.trunkPort = .receiving k gap) (dt : Nat) (kind : Byte) (p : List Byte) :
    runAll s (asCharacters s dt kind p) = runAll s.abandonTrunk (asCharacters s.abandonTrunk dt kind p) := by
  have hmark : exec (.trunkMarkCharacter dt (downChar s.ownAddr) true) s =
      exec (.trunkMarkCharacter dt (downChar s.ownAddr) true) s.abandonTrunk := by
    rw [exec_trunkMarkCharacter hheld, exec_trunkMarkCharacter (s := s.abandonTrunk) hheld]
    simp only [State.trunkMark, elapse_trunkPort, hport, if_true]
    rfl
  rw [asCharacters, runAll, hmark]
  rfl

/-- R88 to R91, R139 to R141: found LISTENING, the request does what its characters do. -/
theorem requestArrives_eq_runAll {s : State} (hheld : s.held = false) (hport : s.trunkPort = .listening) (dt : Nat)
    (kind : Byte) {p : List Byte} (hl : p.length ≤ 32) :
    .next ((s.elapse dt).requestArrives kind p) = runAll s (asCharacters s dt kind p) := by
  cases hgrant : s.grant with
  | none => rw [runAll_asCharacters_noSlot hheld hport hgrant, requestArrives_noSlot (s := s.elapse dt) hport hgrant]
  | some k =>
    rw [runAll_asCharacters ⟨hheld, hport, hgrant⟩ dt kind hl,
      requestArrives_ready (s := s.elapse dt) hport hgrant kind hl]

/-- Settles O32: in reset, and by the state of the trunk port. -/
theorem requestIsItsCharacters : Obligations.RequestIsItsCharacters := by
  unfold Obligations.RequestIsItsCharacters
  intro c dt kind p s hc hformed
  have hl := payload_length_of_wellFormed hc hformed
  rw [exec_request hc]
  cases hheld : s.held with
  | true => rw [event_held hheld, runAll_asCharacters_held hheld]
  | false =>
    rw [event_running hheld]
    cases hport : s.trunkPort with
    | listening => exact requestArrives_eq_runAll hheld hport dt kind hl
    | receiving k gap =>
      rw [requestArrives_receiving (s := s.elapse dt) hport, runAll_asCharacters_receiving hheld hport]
      exact requestArrives_eq_runAll (s := s.abandonTrunk) hheld rfl dt kind hl
    | transmitting k ends =>
      rw [requestArrives_transmitting (s := s.elapse dt) hport, runAll_asCharacters_transmitting hheld hport]

end Sys2Proof.Machine
end

section
/-! PROOFS. An entry laid out and read again (TABLE 5-10, R102): each field reads back, and the clamp leaves it. -/

namespace Sys2Proof.Machine

/-! ### Codes read back (TABLE 5-8): each is read from the character that sends it -/

theorem role_ofCode_sent (r : Role) : Role.ofCode (BitVec.ofNat 8 (Role.code r)).toNat = some r := by
  cases r <;> rfl

theorem bitRate_ofCode_sent (r : BitRate) : BitRate.ofCode (BitVec.ofNat 8 (BitRate.code r)).toNat = some r := by
  cases r <;> rfl

theorem outputMode_ofCode_sent (m : OutputMode) :
    OutputMode.ofCode (BitVec.ofNat 8 (OutputMode.code m)).toNat = some m := by
  cases m <;> rfl

theorem outputLevel_ofCode_sent (l : OutputLevel) :
    OutputLevel.ofCode (BitVec.ofNat 8 (OutputLevel.code l)).toNat = some l := by
  cases l <;> rfl

theorem failAction_ofCode_sent (a : FailAction) :
    FailAction.ofCode (BitVec.ofNat 8 (FailAction.code a)).toNat = some a := by
  cases a <;> rfl

theorem startMode_ofCode_sent (m : StartMode) :
    StartMode.ofCode (BitVec.ofNat 8 (StartMode.code m)).toNat = some m := by
  cases m <;> rfl

theorem boolOfCode_sent (b : Bool) : boolOfCode (BitVec.ofNat 8 (flagNum b)).toNat = some b := by cases b <;> rfl

theorem zoneFieldOf_sent (z : Option ZoneIx) : zoneFieldOf (BitVec.ofNat 8 (zoneNum z)).toNat = some z := by
  revert z; decide

/-- TABLE 5-10: the two flags of a pod entry share one character. -/
theorem podFlags_sent (substitute annotate : Bool) :
    let c : Byte := BitVec.ofNat 8 (flagNum substitute + 2 * flagNum annotate)
    c.toNat ≤ 3 ∧ c.getLsbD 0 = substitute ∧ c.getLsbD 1 = annotate := by
  revert substitute annotate; decide

/-! ### Numbers read back (R102) -/

theorem ofNat_toNat_of_lt {n : Nat} (h : n < 256) : (BitVec.ofNat 8 n).toNat = n := by
  rw [BitVec.toNat_ofNat, Nat.mod_eq_of_lt h]

/-- R102: a two-character number is read as it was sent, low character first. -/
theorem readNum2_eq {p : List Byte} {i n : Nat} (hlow : charAt p i = BitVec.ofNat 8 n)
    (hhigh : charAt p (i + 1) = BitVec.ofNat 8 (n / 256)) (h : n < 65536) : readNum2 p i = n := by
  rw [readNum2, hlow, hhigh, BitVec.toNat_ofNat, BitVec.toNat_ofNat]
  omega

/-- R102: a signed number is read as it was sent, in two's complement. -/
theorem readSigned2_eq {p : List Byte} {i : Nat} {x : Int} (hlow : charAt p i = BitVec.ofNat 8 (x % 65536).toNat)
    (hhigh : charAt p (i + 1) = BitVec.ofNat 8 ((x % 65536).toNat / 256)) (hmin : -32768 ≤ x) (hmax : x < 32768) :
    readSigned2 p i = x := by
  rw [readSigned2, readNum2_eq hlow hhigh (by omega)]
  split <;> omega

/-- R102: a margin, sent as a signed number and read as one without a sign. -/
theorem readNum2_signed_eq {p : List Byte} {i : Nat} {x : Int} (hlow : charAt p i = BitVec.ofNat 8 (x % 65536).toNat)
    (hhigh : charAt p (i + 1) = BitVec.ofNat 8 ((x % 65536).toNat / 256)) (hmin : 0 ≤ x) (hmax : x < 65536) :
    readNum2 p i = x.toNat := by
  rw [readNum2_eq hlow hhigh (by omega)]
  omega

theorem clampInt_of_within {lo hi x : Int} (hlo : lo ≤ x) (hhi : x ≤ hi) : clampInt lo hi x = (x, false) := by
  rw [clampInt, if_neg (by omega), if_neg (by omega)]

theorem clampNat_of_within {lo hi x : Nat} (hlo : lo ≤ x) (hhi : x ≤ hi) : clampNat lo hi x = (x, false) := by
  rw [clampNat, if_neg (by omega), if_neg (by omega)]

/-! ### The four bodies -/

theorem readPodBody_podBody {e : PodEntry} (h : podEntryRanges e = true) :
    readPodBody (podBody e) 0 = some (e, false) := by
  rw [podEntryRanges, decide_eq_true_iff] at h
  obtain ⟨⟨hag, hag'⟩, ⟨hao, hao'⟩, ⟨hrg, hrg'⟩, ⟨hro, hro'⟩, ⟨hsg, hsg'⟩, ⟨hso, hso'⟩, hk, hlim, hlim'⟩ := h
  have hrole : Role.ofCode (charAt (podBody e) 0).toNat = some e.role :=
    role_ofCode_sent e.role
  have hzone : zoneFieldOf (charAt (podBody e) 1).toNat = some e.zone := zoneFieldOf_sent e.zone
  obtain ⟨hfew, hsubstitute, hannotate⟩ : (charAt (podBody e) 17).toNat ≤ 3 ∧
      (charAt (podBody e) 17).getLsbD 0 = e.substitute ∧ (charAt (podBody e) 17).getLsbD 1 = e.annotate :=
    podFlags_sent e.substitute e.annotate
  have hweight : (charAt (podBody e) 14).toNat = e.weight := ofNat_toNat_of_lt (n := e.weight) (by omega)
  have hlimit : readNum2 (podBody e) 15 = e.staleLimit := readNum2_eq rfl rfl (by omega)
  have hairGain : readSigned2 (podBody e) 2 = e.airGain := readSigned2_eq rfl rfl (by omega) (by omega)
  have hairOffset : readSigned2 (podBody e) 4 = e.airOffset := readSigned2_eq rfl rfl (by omega) (by omega)
  have hrhGain : readSigned2 (podBody e) 6 = e.rhGain := readSigned2_eq rfl rfl (by omega) (by omega)
  have hrhOffset : readSigned2 (podBody e) 8 = e.rhOffset := readSigned2_eq rfl rfl (by omega) (by omega)
  have hsurfGain : readSigned2 (podBody e) 10 = e.surfGain := readSigned2_eq rfl rfl (by omega) (by omega)
  have hsurfOffset : readSigned2 (podBody e) 12 = e.surfOffset := readSigned2_eq rfl rfl (by omega) (by omega)
  simp only [readPodBody, Nat.zero_add, hrole, hzone, if_neg (Nat.not_lt.2 hfew), hsubstitute, hannotate, hweight,
    hlimit, hairGain, hairOffset, hrhGain, hrhOffset, hsurfGain, hsurfOffset, clampInt_of_within hag hag',
    clampInt_of_within hao hao', clampInt_of_within hrg hrg', clampInt_of_within hro hro', clampInt_of_within hsg hsg',
    clampInt_of_within hso hso', clampNat_of_within (Nat.zero_le _) hk, clampNat_of_within hlim hlim', Bool.or_self]

/-- TABLE 3-1: a margin or the hysteresis of a zone entry. -/
theorem clampNat_margin {x : Int} {hi : Nat} (hmin : 0 ≤ x) (hmax : x ≤ hi) :
    clampNat 0 hi x.toNat = (x.toNat, false) :=
  clampNat_of_within (Nat.zero_le _) (by omega)

theorem readZoneBody_zoneBody {e : ZoneEntry} (h : zoneEntryRanges e = true) :
    readZoneBody (zoneBody e) 0 = some (e, false) := by
  rw [zoneEntryRanges, decide_eq_true_iff] at h
  obtain ⟨⟨hwatch, hwatch'⟩, ⟨hwarn, hwarn'⟩, ⟨halarm, halarm'⟩, ⟨hhyst, hhyst'⟩, hesc, hrel⟩ := h
  have henabled : boolOfCode (charAt (zoneBody e) 0).toNat = some e.enabled :=
    boolOfCode_sent e.enabled
  have hwatchRead : readNum2 (zoneBody e) 1 = e.watch.toNat := readNum2_signed_eq rfl rfl hwatch (by omega)
  have hwarnRead : readNum2 (zoneBody e) 3 = e.warn.toNat := readNum2_signed_eq rfl rfl hwarn (by omega)
  have halarmRead : readNum2 (zoneBody e) 5 = e.alarm.toNat := readNum2_signed_eq rfl rfl halarm (by omega)
  have hhystRead : readNum2 (zoneBody e) 7 = e.hysteresis.toNat := readNum2_signed_eq rfl rfl hhyst (by omega)
  have hescRead : readNum2 (zoneBody e) 9 = e.escDelay := readNum2_eq rfl rfl (by omega)
  have hrelRead : readNum2 (zoneBody e) 11 = e.relDelay := readNum2_eq rfl rfl (by omega)
  simp only [readZoneBody, Nat.zero_add, henabled, hwatchRead, hwarnRead, halarmRead, hhystRead, hescRead, hrelRead,
    clampNat_margin hwatch hwatch', clampNat_margin hwarn hwarn', clampNat_margin halarm halarm',
    clampNat_margin hhyst hhyst', clampNat_of_within (Nat.zero_le _) hesc, clampNat_of_within (Nat.zero_le _) hrel,
    Int.toNat_of_nonneg hwatch, Int.toNat_of_nonneg hwarn, Int.toNat_of_nonneg halarm, Int.toNat_of_nonneg hhyst,
    Bool.or_self]

theorem readOutputBody_outputBody {e : OutputEntry} (h : outputEntryRanges e = true) :
    readOutputBody (outputBody e) 0 = some (e, false) := by
  rw [outputEntryRanges, decide_eq_true_iff] at h
  obtain ⟨⟨honset, honset'⟩, ⟨hfull, hfull'⟩, hperiod, hperiod'⟩ := h
  have hmode : OutputMode.ofCode (charAt (outputBody e) 0).toNat = some e.mode :=
    outputMode_ofCode_sent e.mode
  have hlevel : OutputLevel.ofCode (charAt (outputBody e) 3).toNat = some e.level :=
    outputLevel_ofCode_sent e.level
  have hfail : FailAction.ofCode (charAt (outputBody e) 9).toNat = some e.failAction :=
    failAction_ofCode_sent e.failAction
  have hzones : readNum2 (outputBody e) 1 = e.zoneSet.toNat := readNum2_eq rfl rfl e.zoneSet.isLt
  have honsetRead : readSigned2 (outputBody e) 4 = e.onset := readSigned2_eq rfl rfl (by omega) (by omega)
  have hfullRead : readSigned2 (outputBody e) 6 = e.full := readSigned2_eq rfl rfl (by omega) (by omega)
  have hperiodRead : (charAt (outputBody e) 8).toNat = e.period := ofNat_toNat_of_lt (n := e.period) (by omega)
  simp only [readOutputBody, Nat.zero_add, hmode, hlevel, hfail, hzones, honsetRead, hfullRead, hperiodRead,
    clampInt_of_within honset honset', clampInt_of_within hfull hfull', clampNat_of_within hperiod hperiod',
    BitVec.ofNat_toNat, BitVec.setWidth_eq, Bool.or_self]

theorem readFieldBody_fieldBody {f : FieldSettings} {g : SweepProgram} (hwindow : 20 ≤ f.window)
    (hwindow' : f.window ≤ 500) (hrounds : 1 ≤ g.rounds) (hrounds' : g.rounds ≤ 255)
    (hdelay : g.startDelay ≤ 600) (hpace : 50 ≤ g.pace)
    (hpace' : g.pace ≤ 10000) : readFieldBody (fieldBody f g) = some ((f, g), false) := by
  have hrate : BitRate.ofCode (charAt (fieldBody f g) 0).toNat = some f.rate :=
    bitRate_ofCode_sent f.rate
  have hmode : StartMode.ofCode (charAt (fieldBody f g) 3).toNat = some g.startMode :=
    startMode_ofCode_sent g.startMode
  have hwindowRead : readNum2 (fieldBody f g) 1 = f.window := readNum2_eq rfl rfl (by omega)
  have hroundsRead : (charAt (fieldBody f g) 4).toNat = g.rounds := ofNat_toNat_of_lt (n := g.rounds) (by omega)
  have hdelayRead : readNum2 (fieldBody f g) 5 = g.startDelay := readNum2_eq rfl rfl (by omega)
  have hpaceRead : readNum2 (fieldBody f g) 7 = g.pace := readNum2_eq rfl rfl (by omega)
  simp only [readFieldBody, hrate, hmode, hwindowRead, hroundsRead, hdelayRead, hpaceRead,
    clampNat_of_within hwindow hwindow', clampNat_of_within hrounds hrounds', clampNat_of_within (Nat.zero_le _) hdelay,
    clampNat_of_within hpace hpace', Bool.or_self]

/-- Settles O40, body by body. -/
theorem configurationBodiesReadBack : Obligations.ConfigurationBodiesReadBack := by
  unfold Obligations.ConfigurationBodiesReadBack
  exact ⟨fun _ => readPodBody_podBody, fun _ => readZoneBody_zoneBody, fun _ => readOutputBody_outputBody,
    fun _ _ => readFieldBody_fieldBody⟩

end Sys2Proof.Machine
end

section
/-! PROOFS. The start of a field transaction (R95, R115 to R119, R152): arbitration, the transaction record, the sweep's
own part in it, and the transmit pins of the field line (R87, R94, R120). -/

namespace Sys2Proof.Machine

open Sys2Proof.Stated

/-! ### The transaction record (R116) -/

theorem podOf_isSome (n : Nat) : (podOf n).isSome = decide (1 ≤ n ∧ n ≤ 63) := by
  rw [podOf]
  split
  · next h => exact (decide_eq_true h).symm
  · next h => exact (decide_eq_false h).symm

theorem newTxn_eq (s : State) (origin : Origin) (request : List Byte) :
    s.newTxn origin request = newTransaction s origin request := by
  simp only [State.newTxn, newTransaction, podOf_isSome, isUp, addressOf, Bool.decide_and, Bool.and_assoc,
    Bool.decide_eq_false]
  rfl

/-- R118 to R120: the port sends a copy of the request in a slot. -/
theorem startSending_eq (s : State) (origin : Origin) (k : SlotNo) :
    s.startSending origin k =
      s.setField (.busy (newTransaction s origin (s.slot k))
        (.sending (s.slot k) (s.now + (s.slot k).length * BitRate.charTime s.active.field.rate) (some k))) := by
  rw [State.startSending, newTxn_eq]
  rfl

/-! ### The sweep's part (R152) -/

/-- R152: the poll that starts is the last of a round at the end of the list, and the last of the sweep where no round
is left. -/
theorem pollStarted_eq (len pace now : Nat) (w : SweepRecord) :
    let ended := w.position + 1 = len
    let last := ended ∧ w.mode = .rounds ∧ w.rounds - 1 = 0
    pollStarted len pace now w =
      { w with
          due := false, position := if ended then 0 else w.position + 1,
          rounds := if ended ∧ w.mode = .rounds then w.rounds - 1 else w.rounds,
          state := if last then .idle else w.state, done := w.done || last,
          paceTimer := if last then w.paceTimer else some (now + pace * ticksPerMs) } := by
  simp only [pollStarted]
  by_cases hended : w.position + 1 = len
  · cases hmode : w.mode with
    | continuous => simp [hended, ms]
    | rounds =>
      by_cases hlast : w.rounds - 1 = 0
      · simp [hended, hlast]
      · simp [hended, hlast, ms]
  · simp [hended, ms]

/-- R119, R152: a sweep poll that is due starts in a granted slot, where 3 are FREE. -/
theorem startSweepTxn_eq (s : State) :
    s.startSweepTxn =
      match s.grant, s.active.sweepList.getD s.sweep.position none with
      | some k, some i =>
        if s.sweep.due = true ∧ 3 ≤ s.freeSlots.length then
          ((s.fillSlot k (sweepPoll i)).startSending .sweep k).setSweep
            (pollStarted s.active.sweepList.length s.active.program.pace s.now s.sweep)
        else s
      | _, _ => s := by
  rw [State.startSweepTxn, State.nextPoll]
  cases s.sweep.due <;> cases s.grant <;> cases s.active.sweepList.getD s.sweep.position none <;> simp

/-! ### Arbitration (R117, R118) -/

/-- R117: DOWN-QUEUE goes before the sweep, and neither starts before the line is ready. -/
theorem startTxn_eq (s : State) :
    s.startTxn =
      if s.fieldPort = .idle ∧ s.fieldQuiet + 2 * BitRate.charTime s.active.field.rate ≤ s.now then
        match s.downQ with
        | k :: rest => { s with downQ := rest }.startSending .trunk k
        | [] => s.startSweepTxn
      else s := by
  have hready : s.fieldReady = true ↔
      s.fieldPort = .idle ∧ s.fieldQuiet + 2 * BitRate.charTime s.active.field.rate ≤ s.now := by
    rw [State.fieldReady, Bool.and_eq_true, decide_eq_true_iff, decide_eq_true_iff]
  exact if_congr hready rfl rfl

/-- R119: the state in which a sweep transaction has started. -/
theorem sweepTxn_eq (s : State) (dt : Nat) (k : SlotNo) (poll : List Byte) (p : FieldPort) (w : SweepRecord) :
    { s with now := s.now + dt, slots := tset s.slots k (overlaid (tget s.slots k) poll), fieldPort := p, sweep := w } =
      (((s.elapse dt).fillSlot k poll).setField p).setSweep w := rfl

/-- R95, R119: a sweep transaction sends its poll, a telegram of 5 characters. -/
theorem startSending_sweepPoll (s : State) (k : SlotNo) (i : PodIx) :
    (s.fillSlot k (sweepPoll i)).startSending .sweep k =
      (s.fillSlot k (sweepPoll i)).setField (.busy (newTransaction s .sweep (sweepPoll i))
        (.sending (sweepPoll i) (s.now + 5 * BitRate.charTime s.active.field.rate) (some k))) := by
  have hlength : (sweepPoll i).length = 5 := telegram_length _ _ _
  rw [startSending_eq, fillSlot_slot, hlength]
  rfl

/-! ### The first moment and the pins -/

/-- R117, R119: the first moment at which a transaction can start, where the port is IDLE and a claimant waits. -/
theorem txnMoment_eq {s : State} (hport : s.fieldPort = .idle)
    (hwaits : s.downQ ≠ [] ∨ (s.sweep.due = true ∧ s.active.sweepList.getD s.sweep.position none ≠ none ∧
      3 ≤ s.freeSlots.length)) :
    s.txnMoment = some (s.fieldQuiet + 2 * BitRate.charTime s.active.field.rate) := by
  have htxnWaits : s.txnWaits = true := by
    rw [State.txnWaits, Bool.or_eq_true, Bool.and_eq_true, Bool.and_eq_true, decide_eq_true_iff, State.nextPoll]
    refine hwaits.imp (fun hdown => ?_) fun ⟨hdue, hpoll, hfree⟩ => ⟨⟨hdue, Option.isSome_iff_ne_none.2 hpoll⟩, hfree⟩
    simpa using hdown
  rw [State.txnMoment, if_pos ⟨hport, htxnWaits⟩]

/-- R87, R115, R120: what the field line's transmit pins carry, by the port's state. -/
theorem fieldPins_eq (s : State) :
    match s.fieldPort with
    | .busy _ (.sending copy _ _) => s.fldDe = true ∧ s.fldTxd = lineBits copy
    | _ => s.fldDe = false ∧ s.fldTxd = [] := by
  rw [State.fldDe, State.fldTxd]
  cases s.fieldPort with
  | idle => exact ⟨rfl, rfl⟩
  | busy t phase =>
    cases phase with
    | sending copy ends slot => exact ⟨rfl, telegramBits_eq_lineBits copy⟩
    | awaiting | receiving | guarding => exact ⟨rfl, rfl⟩

/-- Settles O53: the start by the line, the queue and the sweep, the first moment by `txnMoment_eq` and the pins by
`fieldPins_eq`. -/
theorem fieldTransactionStartArbitrates : Obligations.FieldTransactionStartArbitrates := by
  unfold Obligations.FieldTransactionStartArbitrates
  intro dt s hheld now char
  have hmoment : s.startsTimely dt → 0 < dt → ∀ e ∈ s.txnMoment, now ≤ e := fun htimely hdt =>
    have ⟨_, htxn⟩ := htimely hdt
    htxn
  refine ⟨?_, fun htimely hport hwaits hdt => hmoment htimely hdt _ (txnMoment_eq hport hwaits), fieldPins_eq s⟩
  change event dt State.startTxn s = _
  rw [event_running hheld, startTxn_eq]
  simp only [now, char, elapsed_eq, sweepTxn_eq]
  refine congrArg Host.Outcome.next (ite_congr rfl (fun _ => ?_) fun _ => rfl)
  rw [elapse_downQ]
  cases s.downQ with
  | cons k rest => exact startSending_eq _ .trunk k
  | nil =>
    have hgrant : (s.elapse dt).grant = s.grant := rfl
    rw [startSweepTxn_eq, hgrant, elapse_active, elapse_sweep]
    simp only [startSending_sweepPoll, pollStarted_eq]
    cases s.grant <;> cases s.active.sweepList.getD s.sweep.position none <;> rfl

end Sys2Proof.Machine
end
